-- ==== Sys2Proof/Word.lean ====
section
/-! DEFINITION. The one word type of the station's frames, records and pins. Everything the manual treats as a
number of a stated range (counts, times, concentrations) is a `Nat` or an `Int`; only what travels or is stored as
bytes is a bit vector. -/

namespace Sys2Proof

/-- A byte of a frame, of a reading frame or of a slot (R83, R127, R196). -/
abbrev Byte := BitVec 8

end Sys2Proof
end

