-- ==== Sys2Proof/Syntax.lean ====
section
/-! DEFINITION. The commands of the station: one constructor for each row of spec/opcode_table.json, with the operands
the event carries. -/

namespace Sys2Proof

/-- The four plant signal inputs (R64). -/
inductive InputLine where
  | fire | feed | clean | trip
  deriving DecidableEq, Repr

/-- What breaks a frame in assembly (R83). -/
inductive BreakCause where
  /-- A character's stop bit samples dominant. -/
  | framingError
  /-- More than two recessive bit times after a stop bit before the last character. -/
  | overlongGap
  /-- A length character above 136. -/
  | lengthTooLarge
  deriving DecidableEq, Repr

/-- A command: an event or operation of spec/opcode_table.json. The commands that carry a frame of the plant link carry
its sender, target and payload as they stand on the line. -/
inductive Instr where
  /-- R192: power is applied or RESET asserted; the strap pins and the input levels when the reset ends. -/
  | powerOnReset (straps : BitVec 3) (fire feed clean trip : Bool)
  /-- R3: bytes received on the analyser line, in order; R2 assembles them into reading frames. -/
  | analyserFrame (bytes : List Byte)
  /-- R2: the next byte of the frame in assembly did not arrive within 5 ms. -/
  | analyserFrameAbandon
  /-- R64: a change of a line to `active` has held for 10 ms. -/
  | inputEdge (line : InputLine) (active : Bool)
  /-- R100: the running minute reaches its length. -/
  | minuteClose
  /-- R67: the untimed minute timer has run 60 s. -/
  | untimedMinuteClose
  /-- R104: a MARK frame is complete. -/
  | mark (sender target : Byte) (payload : List Byte)
  /-- R118: a LOAD frame is complete. -/
  | load (sender target : Byte) (payload : List Byte)
  /-- R158: a RESULT frame is complete. -/
  | result (sender target : Byte) (payload : List Byte)
  /-- R85: a frame with the station's own number as sender is complete. -/
  | addressClash (kind target : Byte) (payload : List Byte)
  /-- R83: the frame in assembly is broken. -/
  | frameBroken (cause : BreakCause)
  /-- R84: a complete frame, given by all its characters, fails a check. -/
  | frameCheckFail (characters : List Byte)
  /-- R169: a STATUS_REQ frame is complete. -/
  | statusReq (sender target : Byte) (payload : List Byte)
  /-- R170: a WINDOW frame is complete. -/
  | window (sender target : Byte) (payload : List Byte)
  /-- R174: a READ frame is complete. -/
  | read (sender target : Byte) (payload : List Byte)
  /-- R108: a TIME frame is complete. -/
  | time (sender target : Byte) (payload : List Byte)
  /-- R75: a RELEASE frame is complete. -/
  | release (sender target : Byte) (payload : List Byte)
  /-- R185: a CONFIGURE frame is complete. -/
  | configure (sender target : Byte) (payload : List Byte)
  /-- R187: a START frame is complete. -/
  | start (sender target : Byte) (payload : List Byte)
  /-- R191: a RESTART frame is complete. -/
  | restart (sender target : Byte) (payload : List Byte)
  /-- R88: on an idle line the station drives the start bit of its queue head. -/
  | transmitAttemptStart
  /-- R89: a recessive bit of the kind or sender character read back dominant. -/
  | arbitrationLost
  /-- R90: a readback mismatch. -/
  | transmitError
  /-- R91: the last stop bit was read back. -/
  | transmitComplete
  /-- R96: a waiting entry reaches its deadline. -/
  | entryExpired
  /-- R120: the entry of station number `station + 1` reaches an age of 3,600 s. -/
  | loadEntryAgeOut (station : Fin 8)
  /-- R131: the idle programmer examines its order of work. -/
  | programmerStart
  /-- R127, R133: the slot program in progress completes with PASS or FAIL. -/
  | slotProgramComplete (pass : Bool)
  /-- R127, R139: the block erase in progress completes with PASS or FAIL. -/
  | blockEraseComplete (pass : Bool)
  /-- R127, R143: the slot copy in progress completes with PASS or FAIL. -/
  | slotCopyComplete (pass : Bool)
  /-- R130: the first of the waiting store reads is served. -/
  | storeReadServed
  /-- R153: the start-up scan ends; the pool blocks whose scan erase failed, and those whose RETIRED header failed. -/
  | scanComplete (failedErases failedHeaders : List Nat)
  /-- R82: the line has been recessive for 12 bit times. -/
  | lineIdle
  /-- R86: a complete frame that is ordinary traffic for another node. -/
  | trafficForAnotherNode (kind sender target : Byte) (payload : List Byte)
  deriving DecidableEq, Repr

end Sys2Proof
end

