-- ==== Sys2Proof/Config.lean ====
section
/-! DEFINITION. What one implementation fixes and what the manual leaves open. An opaque constant has no body: nothing
can be proved of its value, so a statement that holds holds whatever it is. -/

namespace Sys2Proof.Config

/-- One idle step lets this many microseconds pass: one bit time of the plant link (R81), the finest time the manual
states. DESIGN CHOICE (log entry 1), safe: every stated duration is a multiple of it. -/
abbrev tickMicros : Nat := 4

/-- FREE VALUE (log entry 8): the settle minutes a return starts while no configuration is in force. R8 speaks of the
configured settle minutes, and before the first configuration there are none. -/
opaque settleMinutesUnconfigured : Fin 6

/-- FREE VALUE (log entry 9): what a slot holds after an erase of its block that failed (R139 gives no contents): 0
erased, 1 VOID, 2 as before. The first argument tells one failed erase from another, the second is the slot. -/
opaque failedEraseSlot : Nat → Nat → Fin 3

/-- FREE VALUE (log entry 10): the five bytes after the year byte of a station time that is untimed (R197 gives the
year byte 0xFF alone). -/
opaque untimedTimeByte : Fin 5 → BitVec 8

/-- FREE VALUE (log entry 11): the ten bytes after "present" of a load share entry that is not present (R125, R197). -/
opaque absentShareEntryByte : Fin 10 → BitVec 8

/-- FREE VALUE (log entry 11): the eight bytes after "valid" of a last share that is invalid (R125, R197). -/
opaque invalidShareByte : Fin 8 → BitVec 8

/-- FREE VALUE (log entry 11): the configuration sequence shown while the store holds no configuration (R154). -/
opaque noConfigSequence : BitVec 32

/-- FREE VALUE (log entry 12): what a two-byte count field holds of a count above 65,535 whose chapter states no
maximum (R58, R60, R196). -/
opaque overflowedCount : Nat → BitVec 16

/-- FREE VALUE (log entry 13): the header sequence after 4,294,967,295 (R128 gives 32 bits and no wrap). -/
opaque sequenceAfterLast : BitVec 32

end Sys2Proof.Config
end

