-- ==== Sys2Proof/Machine/Arith.lean ====
section
/-! DEFINITION. The manual's rounding, saturation and byte order, and its one CRC-16 (00_scope, Conventions; R196). -/

namespace Sys2Proof.Machine

/-- `x / y` formed exactly and rounded once to the nearest integer, halfway cases away from zero (00_scope, Rounding).
`y` is a positive divisor; with `y = 0` the result is 0 and no rule asks for it. -/
def roundDiv (x : Int) (y : Nat) : Int :=
  let q : Int := ((2 * x.natAbs + y) / (2 * y) : Nat)
  if 0 ≤ x then q else -q

/-- The limit of every saturating signed value (R12, R28). -/
abbrev limit32 : Int := 2147483647

/-- A value brought within ±2,147,483,647, and whether it lay beyond (R12, R28). -/
def saturate32 (x : Int) : Int × Bool :=
  if limit32 < x then (limit32, true)
  else if x < -limit32 then (-limit32, true)
  else (x, false)

/-- `x` brought into `lo` to `hi` (R23, R109). -/
def clampTo (lo hi x : Int) : Int :=
  if x < lo then lo else if hi < x then hi else x

/-- A count of up to 65,535 increased by `n`; it stops at 65,535 and stays there (R19, R71, R97, R107, R154, R161). -/
def count16 (c n : Nat) : Nat := min (c + n) 65535

/-- An unsigned value that saturates at 4,294,967,295 (R50, R57, R60). -/
def saturateU32 (n : Nat) : Nat := min n 4294967295

/-- `n` in `len` bytes, most significant byte first (00_scope, Fields and bytes). -/
def be : Nat → Nat → List Byte
  | 0, _ => []
  | len + 1, n => BitVec.ofNat 8 (n / 256 ^ len) :: be len n

/-- A signed value in `len` bytes, two's complement, most significant byte first (12, opening). -/
def beSigned (len : Nat) (x : Int) : List Byte :=
  be len (x % (256 ^ len : Nat)).toNat

/-- The unsigned number in `len` bytes from offset `off`, most significant byte first. -/
def field (bytes : List Byte) (off len : Nat) : Nat :=
  ((bytes.drop off).take len).foldl (fun n b => n * 256 + b.toNat) 0

/-- The two's complement number in `len` bytes from offset `off`. -/
def fieldSigned (bytes : List Byte) (off len : Nat) : Int :=
  let n := field bytes off len
  if 256 ^ len ≤ 2 * n then (n : Int) - (256 ^ len : Nat) else n

/-- `bytes` followed by zero bytes up to `len` (12, opening: bytes shown as zero are written 0x00). -/
def padTo (len : Nat) (bytes : List Byte) : List Byte :=
  bytes ++ List.replicate (len - bytes.length) 0

/-- One bit time of the CRC-16 register (R196: polynomial 0x1021, most significant bit first). -/
def crcShift (c : Nat) : Nat :=
  if 32768 ≤ c then ((c * 2) % 65536) ^^^ 0x1021 else c * 2

/-- One byte into the CRC-16 register (R196). -/
def crcByte (c : Nat) (b : Byte) : Nat :=
  crcShift (crcShift (crcShift (crcShift (crcShift (crcShift (crcShift (crcShift (c ^^^ (b.toNat * 256)))))))))

/-- The CRC-16 of the part: initial value 0xFFFF, no final inversion (R196). -/
def crc16 (bytes : List Byte) : Nat := bytes.foldl crcByte 0xFFFF

end Sys2Proof.Machine
end

