-- ==== Sys2Proof/Machine/Types.lean ====
section
/-! DEFINITION. The named values of the manual: ids, states, statuses, codes and the records the blocks hand to one
another. Functions on them stand in the other files of this folder. -/

namespace Sys2Proof.Machine

/-- An id of 4 bytes (R197): an interval id has `index` 0 to 47, a day id `index` 255 (0xFF), a year id `day` 65,535 and
`index` 255, as their byte layouts have them. -/
structure Id where
  year : Nat
  day : Nat
  index : Nat
  deriving DecidableEq, Repr, Inhabited

/-- A minute id (R1): year, day of year and minute of day 0 to 1,439. -/
structure MinuteId where
  year : Nat
  day : Nat
  minute : Nat
  deriving DecidableEq, Repr, Inhabited

/-- The station states (R184). -/
inductive StationState where
  | scan | setup | untimed | recording | failed
  deriving DecidableEq, Repr, Inhabited

/-- The statuses of an analyser reading (R4). -/
inductive AnalyserStatus where
  | measuring | overrange | calibrating | maintenance | fault
  deriving DecidableEq, Repr, Inhabited

/-- The state of a channel's minute (R16), of a component minute (R32) and of a component's interval (R49). -/
inductive MinuteState where
  | valid | maint | fault
  deriving DecidableEq, Repr, Inhabited

/-- The role the configuration in force gives a channel (R6); components are numbered 1 to 8. -/
inductive Role where
  | component (n : Nat)
  | o2 | h2o | temp | press | flow | load
  deriving DecidableEq, Repr, Inhabited

/-- The fates of an interval (R48). -/
inductive Fate where
  | notOperating | abnormal | counted | interrupted
  deriving DecidableEq, Repr, Inhabited

/-- The day status of a component (R56). -/
inductive DayStatus where
  | notOperating | valid | invalid
  deriving DecidableEq, Repr, Inhabited

/-- The recording state of the period unit (R39). -/
inductive RecordingState where
  | off | waiting | opened
  deriving DecidableEq, Repr, Inhabited

/-- The causes of a cutoff (R71, R73). -/
inductive CutoffCause where
  | limit | budget | trip
  deriving DecidableEq, Repr, Inhabited

/-- The abnormal-operation machine; CUTOFF with its cause is the cutoff latch (R68 to R75). -/
inductive AbnormalMachine where
  | normal
  | abnormal
  | cutoff (cause : CutoffCause)
  deriving DecidableEq, Repr, Inhabited

/-- The cause codes of the notices (R197). -/
inductive Cause where
  | clean | fire | resumed | cutoff | trip | reset | limit | budget
  deriving DecidableEq, Repr, Inhabited

/-- The notice codes (R197). -/
inductive NoticeCode where
  | gap | abnBegin | abnEnd | cutoff | release | clockAdjust | start | restart | mirrorSacrificed
  deriving DecidableEq, Repr, Inhabited

/-- The slot kinds (R127, R197). -/
inductive SlotKind where
  | header | interval | day | year1 | year2 | notice | copyEnd | config
  deriving DecidableEq, Repr, Inhabited

/-- The frame kinds of the plant link (05, Frames and their kinds). -/
inductive FrameKind where
  | mark | load | result | answer | statusReply | items
  | statusReq | window | read | time | release | configure | start | restart
  deriving DecidableEq, Repr, Inhabited

/-- The answer codes (R167). -/
inductive AnswerCode where
  | done | state | range | condition | busy
  deriving DecidableEq, Repr, Inhabited

/-- The status of a load report (R116). -/
inductive LoadStatus where
  | operating | stopped | invalid
  deriving DecidableEq, Repr, Inhabited

/-- The pollutant codes (R197); they enter no arithmetic. -/
inductive Pollutant where
  | dust | toc | hcl | hf | so2 | nox | co | nh3 | hg | other
  deriving DecidableEq, Repr, Inhabited

/-- The two areas of the store that hold records (R129). -/
inductive Area where
  | own | mirror
  deriving DecidableEq, Repr, Inhabited

/-- The states of a block (R129). -/
inductive BlockState where
  | config | erased | openOwn | openMirror | fullOwn | fullMirror | relocating | copying | retired
  deriving DecidableEq, Repr, Inhabited

/-- The phases of a relocation (R142). -/
inductive RelocPhase where
  | target | copying | record | copyEnd | cleanup
  deriving DecidableEq, Repr, Inhabited

/-- The kinds of a readout window (R170). -/
inductive WindowKind where
  | interval | day | notice | year
  deriving DecidableEq, Repr, Inhabited

/-- The order of an INTERVAL or DAY window (R172). -/
inductive WindowOrder where
  | recordMajor | componentMajor
  deriving DecidableEq, Repr, Inhabited

/-- The direction of a window (R170). -/
inductive WindowDirection where
  | forward | backward
  deriving DecidableEq, Repr, Inhabited

/-- The classes of an item (R175). -/
inductive ItemClass where
  | provisional | pending | stored | absent
  deriving DecidableEq, Repr, Inhabited

/-- The sections of the status reply (R169). -/
inductive StatusSection where
  | general | counts | sharing | mirroring
  deriving DecidableEq, Repr, Inhabited

/-- The flow basis of a configuration. -/
inductive FlowBasis where
  | stdDry | actualWet
  deriving DecidableEq, Repr, Inhabited

/-- The six flags of a component's record entry (R50, R197). A component minute carries the first four (R27). -/
structure ComponentFlags where
  substituted : Bool := false
  clamped : Bool := false
  overflow : Bool := false
  shareSubstituted : Bool := false
  massIncomplete : Bool := false
  exceeded : Bool := false
  deriving DecidableEq, Repr, Inhabited

/-- The header flags of an interval or day record (R51, R197). -/
structure HeaderFlags where
  noFlow : Bool := false
  isPartial : Bool := false
  earlyClose : Bool := false
  shareSubstituted : Bool := false
  deriving DecidableEq, Repr, Inhabited

/-- A component record of the configuration image. -/
structure ComponentConfig where
  channel : Nat
  pollutant : Pollutant
  wet : Bool
  actual : Bool
  aboveOnly : Bool
  intervalLimit : Nat
  dayLimit : Nat
  deduction : Nat
  ceiling : Nat
  deriving DecidableEq, Repr, Inhabited

/-- A configuration image; the default values are those of the table's column "Fresh value" (R186). -/
structure ConfigImage where
  components : List (Option ComponentConfig) := List.replicate 8 none
  o2 : Option Nat := none
  h2o : Option Nat := none
  temp : Option Nat := none
  press : Option Nat := none
  flow : Option Nat := none
  load : Option Nat := none
  flowBasis : FlowBasis := .stdDry
  o2Reference : Nat := 1100
  o2Cap : Nat := 1800
  minReadings : Nat := 20
  minValidMinutes : Nat := 20
  dayAllowance : Nat := 5
  settleMinutes : Nat := 2
  holdMinutes : Nat := 2
  continuousLimit : Nat := 240
  yearBudget : Nat := 3600
  stackGroup : Nat := 0
  partners : List Nat := []
  deriving DecidableEq, Repr, Inhabited

/-- The configuration in force: an image with its configuration sequence (11). -/
structure InForce where
  image : ConfigImage
  sequence : Nat
  deriving DecidableEq, Repr, Inhabited

/-- A captured reading: its status and its value as taken (R5). -/
structure Reading where
  status : AnalyserStatus
  value : Option Int
  deriving DecidableEq, Repr, Inhabited

/-- A channel's minute accumulator (R11 to R14). -/
structure MinuteAcc where
  sum : Int := 0
  count : Nat := 0
  maintSeen : Bool := false
  faultSeen : Bool := false
  returnMark : Bool := false
  clamped : Bool := false
  overflow : Bool := false
  crowded : Bool := false
  deriving DecidableEq, Repr, Inhabited

/-- A channel entry (R5). -/
structure ChannelEntry where
  latest : Option Reading := none
  previous : Option Reading := none
  settle : Nat := 0
  acc : MinuteAcc := {}
  deriving DecidableEq, Repr, Inhabited

/-- The minute value of one channel (R17). -/
structure MinuteValue where
  mean : Option Int
  count : Nat
  state : MinuteState
  clamped : Bool
  overflow : Bool
  crowded : Bool
  deriving DecidableEq, Repr, Inhabited

/-- A held value of a peripheral role (R24). -/
structure HeldValue where
  value : Option Int := none
  clamped : Bool := false
  age : Nat := 0
  deriving DecidableEq, Repr, Inhabited

/-- An available peripheral: its value, its CLAMPED flag, and whether it is held rather than direct (R24). -/
structure Peripheral where
  value : Int
  clamped : Bool
  held : Bool
  deriving DecidableEq, Repr, Inhabited

/-- The apportioned flow of a minute with its two marks (R34). -/
structure ShareFlow where
  value : Int
  shareSubstituted : Bool
  restsOnHeld : Bool
  deriving DecidableEq, Repr, Inhabited

/-- A component minute (R32, R36). -/
structure ComponentMinute where
  state : MinuteState
  c3 : Option Int
  mean : Option Int
  count : Nat
  mass : Option Nat
  flags : ComponentFlags
  deriving DecidableEq, Repr, Inhabited

/-- The O2 value used at a minute: the clamped value, and whether it was held rather than direct (R36). -/
structure O2Used where
  value : Int
  held : Bool
  deriving DecidableEq, Repr, Inhabited

/-- The minute result handed to the period unit (R36). -/
structure MinuteResult where
  minute : MinuteId
  components : List (Option ComponentMinute)
  o2 : Option O2Used
  qs : Option ShareFlow
  flowConfigured : Bool
  deriving DecidableEq, Repr, Inhabited

/-- A component's accumulators of the open interval (R43). -/
structure ComponentAcc where
  sum : Int := 0
  valid : Nat := 0
  maint : Nat := 0
  fault : Nat := 0
  massSum : Nat := 0
  massCount : Nat := 0
  flags : ComponentFlags := {}
  deriving DecidableEq, Repr, Inhabited

/-- The open interval (R43). -/
structure OpenInterval where
  id : Id
  components : List (Option ComponentAcc)
  minutesTaken : Nat := 0
  operating : Nat := 0
  abnormal : Nat := 0
  o2Sum : Int := 0
  o2Count : Nat := 0
  qsSum : Int := 0
  qsCount : Nat := 0
  flags : HeaderFlags := {}
  deriving DecidableEq, Repr, Inhabited

/-- A component entry of an interval record (R50). -/
structure IntervalEntry where
  mean : Int
  validated : Nat
  mass : Nat
  valid : Nat
  status : MinuteState
  flags : ComponentFlags
  deriving DecidableEq, Repr, Inhabited

/-- An interval record (R50, R51). -/
structure IntervalRecord where
  origin : Nat
  id : Id
  fate : Fate
  flags : HeaderFlags
  operating : Nat
  abnormal : Nat
  o2Mean : Nat
  qsMean : Nat
  components : List (Option IntervalEntry)
  deriving DecidableEq, Repr, Inhabited

/-- A component's accumulators of the open day (R55). -/
structure DayAcc where
  validatedSum : Nat := 0
  valid : Nat := 0
  massSum : Nat := 0
  flags : ComponentFlags := {}
  deriving DecidableEq, Repr, Inhabited

/-- The open day (R55). -/
structure OpenDay where
  day : Id
  intervals : Nat := 0
  anyPartial : Bool := false
  anyNoFlow : Bool := false
  anyShareSubstituted : Bool := false
  operating : Nat := 0
  abnormal : Nat := 0
  counted : Nat := 0
  o2Sum : Nat := 0
  qsSum : Nat := 0
  components : List DayAcc := List.replicate 8 {}
  deriving DecidableEq, Repr, Inhabited

/-- A component entry of a day record (R57). -/
structure DayEntry where
  mean : Nat
  mass : Nat
  counted : Nat
  valid : Nat
  notValid : Nat
  status : DayStatus
  flags : ComponentFlags
  deriving DecidableEq, Repr, Inhabited

/-- A day record (R57). -/
structure DayRecord where
  origin : Nat
  day : Id
  flags : HeaderFlags
  operating : Nat
  abnormal : Nat
  o2Mean : Nat
  qsMean : Nat
  intervals : Nat
  components : List (Option DayEntry)
  deriving DecidableEq, Repr, Inhabited

/-- A component's totals of the year summary (R58). -/
structure YearTotals where
  counted : Nat := 0
  valid : Nat := 0
  exceeding : Nat := 0
  operatingDays : Nat := 0
  validDays : Nat := 0
  invalidDays : Nat := 0
  exceedingDays : Nat := 0
  mass : Nat := 0
  deriving DecidableEq, Repr, Inhabited

/-- The year summary (R58). -/
structure YearSummary where
  components : List YearTotals := List.replicate 8 {}
  operating : Nat := 0
  abnormal : Nat := 0
  episodes : Nat := 0
  cutoffs : Nat := 0
  gapIntervals : Nat := 0
  interrupted : Nat := 0
  deriving DecidableEq, Repr, Inhabited

/-- Station time while timed: year, day of year, minute of day, and the microseconds run within the running minute
(R1, R99). -/
structure StationTime where
  year : Nat
  day : Nat
  minute : Nat
  micros : Nat
  deriving DecidableEq, Repr, Inhabited

/-- A staged adjustment (R109). -/
structure StagedAdjustment where
  applied : Int
  requested : Int
  terminal : Nat
  deriving DecidableEq, Repr, Inhabited

/-- The last closed interval with the real time since its close (R100). -/
structure LastClosed where
  id : Id
  elapsed : Nat
  deriving DecidableEq, Repr, Inhabited

/-- A load report (07). -/
structure LoadReport where
  minute : MinuteId
  load : Nat
  status : LoadStatus
  deriving DecidableEq, Repr, Inhabited

/-- A present entry of the load share table; its age is in microseconds (R118, R120). -/
structure ShareEntry where
  group : Nat
  latest : LoadReport
  previous : Option LoadReport
  age : Nat
  deriving DecidableEq, Repr, Inhabited

/-- A valid share (R123). -/
structure Share where
  own : Nat
  total : Nat
  substituted : Bool
  deriving DecidableEq, Repr, Inhabited

/-- The receiver of the link controller (R82, R83). `afterFrame` is the line between the end of a complete frame and the
next idle: a start bit there is an error, not a frame. -/
inductive Receiver where
  | waitIdle | idle | assembling | afterFrame
  deriving DecidableEq, Repr, Inhabited

/-- An entry of the transmit queue (05, The transmit queue); times are in microseconds of the deadline timer. -/
structure TxEntry where
  kind : FrameKind
  target : Nat
  payload : List Byte
  terminal : Option Nat
  offered : Nat
  deadline : Nat
  errors : Nat := 0
  sending : Bool := false
  deriving DecidableEq, Repr, Inhabited

/-- A slot as programmed: 128 data bytes and 8 spare bytes (R127). -/
structure SlotImage where
  data : List Byte
  spare : List Byte
  deriving DecidableEq, Repr, Inhabited

/-- What a slot that is not erased holds: an image, or nothing usable (VOID; its bytes are read by no rule). -/
inductive SlotContent where
  | image (i : SlotImage)
  | void
  deriving DecidableEq, Repr, Inhabited

/-- An entry of the block table (R129). Sequence 0 and replaces 0 stand for none, as the header's layout has it. -/
structure BlockEntry where
  state : BlockState
  sequence : Nat := 0
  replaces : Nat := 0
  fill : Nat := 0
  oldest : Option Id := none
  newest : Option Id := none
  owed : Bool := false
  erasing : Bool := false
  deriving DecidableEq, Repr, Inhabited

/-- Why a block is being erased, which decides what its completion does. -/
inductive ErasePurpose where
  /-- A candidate, needed by a head or a relocation (R140) or erased ahead (R138). -/
  | candidate
  /-- The FULL_MIRROR block the OWN area sacrifices (R140). -/
  | sacrifice
  /-- A block of the cleanup list (R145). -/
  | cleanup
  /-- Block 0, before a config write (R150). -/
  | config
  deriving DecidableEq, Repr, Inhabited

/-- The operation the programmer has in progress, with its block and slot (R130). -/
inductive ProgOp where
  /-- The head of the area's queue, into its OPEN block (R133, R134). -/
  | programHead (area : Area) (block slot : Nat)
  /-- The header of a block an area opens (R135). -/
  | programOpenHeader (area : Area) (block sequence : Nat)
  /-- The header of a relocation target (R143). -/
  | programTargetHeader (block sequence : Nat)
  /-- The relocated record, into the target (R144). -/
  | programRecord (block slot : Nat)
  /-- COPY_END, into the target (R144). -/
  | programCopyEnd (block slot : Nat)
  /-- The RETIRED header of a block of the cleanup list (R145). -/
  | programRetiredHeader (block sequence : Nat)
  /-- A config slot of block 0 (R150). -/
  | programConfig (slot : Nat)
  /-- A block erase. -/
  | erase (block : Nat) (purpose : ErasePurpose)
  /-- A slot copy of a relocation (R143). -/
  | copy (source target slot : Nat)
  deriving DecidableEq, Repr, Inhabited

/-- The relocation context (R142). -/
structure Relocation where
  area : Area
  source : Nat
  sourceSequence : Nat
  recordSlot : Nat
  target : Option Nat := none
  copyPosition : Nat := 1
  phase : RelocPhase := .target
  deriving DecidableEq, Repr, Inhabited

/-- A block of the cleanup list, with whether its erase has passed (R145). -/
structure CleanupEntry where
  block : Nat
  erased : Bool := false
  deriving DecidableEq, Repr, Inhabited

/-- An entry of the day index (R148). -/
structure IndexEntry where
  origin : Nat
  day : Id
  block : Nat
  slot : Nat
  deriving DecidableEq, Repr, Inhabited

/-- A config write asked for (R150, R188): the image, the sequence it takes, and its failed programs so far. -/
structure ConfigWrite where
  image : ConfigImage
  sequence : Nat
  failures : Nat := 0
  deriving DecidableEq, Repr, Inhabited

/-- An origin entry of partner mirroring (09). -/
structure OriginEntry where
  lastInterval : Option Id := none
  lastDay : Option Id := none
  lastYear1 : Option Id := none
  lastYear2 : Option Id := none
  storedInterval : Option Id := none
  storedDay : Option Id := none
  storedYear1 : Option Id := none
  storedYear2 : Option Id := none
  gap : Nat := 0
  deriving DecidableEq, Repr, Inhabited

/-- A cursor of a window: an id, and a component (INTERVAL, DAY), a notice position (NOTICE) or a part (YEAR)
(R172, R177, R178). -/
structure Cursor where
  id : Id
  sub : Nat
  deriving DecidableEq, Repr, Inhabited

/-- A readout window (R170, R171); `serial` is the model's own (log entry 5). -/
structure Window where
  origin : Nat
  kind : WindowKind
  first : Id
  last : Id
  firstComponent : Nat
  lastComponent : Nat
  order : WindowOrder
  direction : WindowDirection
  cursor : Cursor
  headerPending : Bool := true
  pageStart : Option Cursor := none
  serial : Nat := 0
  deriving DecidableEq, Repr, Inhabited

/-- A READ that waits for the programmer (R130, R168): the terminal, the time of taking, its repeat field, the
provisional view formed at its taking (R175), and its window once that has been replaced (R171). -/
structure WaitingRead where
  terminal : Nat
  taken : Nat
  repeated : Bool
  view : Option IntervalRecord
  serial : Nat
  replaced : Option Window := none
  deriving DecidableEq, Repr, Inhabited

/-- The pending START: its terminal and time of taking (R188). -/
structure PendingStart where
  terminal : Nat
  taken : Nat
  deriving DecidableEq, Repr, Inhabited

end Sys2Proof.Machine
end

