-- ==== Sys2Proof/Machine/Calendar.lean ====
section
/-! DEFINITION. Station time and its identifiers: years, days, intervals and minutes, their order, their neighbours and
their number (R1; 00_scope, Station time and identifiers). -/

namespace Sys2Proof.Machine

/-- The number of days of a year: a year divisible by 4 is a leap year (R1). -/
def daysInYear (year : Nat) : Nat := if year % 4 = 0 then 366 else 365

/-- A year 2000 to 2099 and a day within its length (R1). Day 0 is no day of a year, although R103 and R108 name only days
beyond its length (log entry 45). -/
def realDay (year day : Nat) : Bool :=
  2000 ≤ year && year ≤ 2099 && 1 ≤ day && day ≤ daysInYear year

/-- The number of days from day 1 of 2000 to this day. -/
def dayNumber (year day : Nat) : Nat :=
  365 * (year - 2000) + (year - 2000 + 3) / 4 + (day - 1)

/-- The year and day after a day (00_scope: across the end of a year). -/
def nextDay (year day : Nat) : Nat × Nat :=
  if day < daysInYear year then (year, day + 1) else (year + 1, 1)

/-- The year and day before a day. -/
def previousDay (year day : Nat) : Nat × Nat :=
  if 1 < day then (year, day - 1) else (year - 1, daysInYear (year - 1))

/-- A day id: its fourth byte is 0xFF (R197). -/
def dayId (year day : Nat) : Id := { year := year, day := day, index := 255 }

/-- A year id: its last three bytes are 0xFF (R197). -/
def yearId (year : Nat) : Id := { year := year, day := 65535, index := 255 }

/-- The day of an id, as a day id. -/
def Id.toDay (i : Id) : Id := dayId i.year i.day

/-- The order of ids: year, then day, then index (00_scope). -/
def Id.before (a b : Id) : Bool :=
  a.year < b.year || (a.year == b.year && (a.day < b.day || (a.day == b.day && a.index < b.index)))

/-- `a` is not after `b`. -/
def Id.notAfter (a b : Id) : Bool := !(b.before a)

/-- A real interval id: a real day and an index of at most 47 (R103, R158, R170). -/
def realInterval (i : Id) : Bool := realDay i.year i.day && i.index ≤ 47

/-- The place of an interval id in id order. -/
def intervalNumber (i : Id) : Nat := dayNumber i.year i.day * 48 + i.index

/-- The next interval id. -/
def Id.nextInterval (i : Id) : Id :=
  if i.index < 47 then { i with index := i.index + 1 }
  else let (y, d) := nextDay i.year i.day; { year := y, day := d, index := 0 }

/-- The previous interval id. -/
def Id.previousInterval (i : Id) : Id :=
  if 0 < i.index then { i with index := i.index - 1 }
  else let (y, d) := previousDay i.year i.day; { year := y, day := d, index := 47 }

/-- The next day id. -/
def Id.nextDayId (i : Id) : Id := let (y, d) := nextDay i.year i.day; dayId y d

/-- The previous day id. -/
def Id.previousDayId (i : Id) : Id := let (y, d) := previousDay i.year i.day; dayId y d

/-- The place of a minute id in id order. -/
def minuteNumber (m : MinuteId) : Nat := dayNumber m.year m.day * 1440 + m.minute

/-- A real minute id (R118). -/
def realMinute (m : MinuteId) : Bool := realDay m.year m.day && m.minute ≤ 1439

/-- The second within the running minute; at the minute's end, before its close, the minute's length (log entry 52). -/
def StationTime.second (t : StationTime) : Nat := t.micros / 1000000

/-- The id of the running minute. -/
def StationTime.minuteId (t : StationTime) : MinuteId := { year := t.year, day := t.day, minute := t.minute }

/-- The running interval: index i covers minutes 30i to 30i + 29 (00_scope). -/
def StationTime.interval (t : StationTime) : Id := { year := t.year, day := t.day, index := t.minute / 30 }

/-- The running day. -/
def StationTime.dayId (t : StationTime) : Id := Sys2Proof.Machine.dayId t.year t.day

/-- The first second of the next minute (R99). -/
def StationTime.nextMinute (t : StationTime) : StationTime :=
  if t.minute < 1439 then { t with minute := t.minute + 1, micros := 0 }
  else let (y, d) := nextDay t.year t.day; { year := y, day := d, minute := 0, micros := 0 }

/-- The last minute of the clock's range, which the clock does not close (R99). -/
def StationTime.atRangeEnd (t : StationTime) : Bool :=
  t.year == 2099 && t.day == 365 && t.minute == 1439

/-- Station time in whole seconds, counting 60 s for every minute of every day in order (R109). -/
def StationTime.wholeSeconds (t : StationTime) : Nat := minuteNumber t.minuteId * 60 + t.second

/-- The number of interval ids strictly between `a` and `b` that lie in `year` (R41). -/
def gapIntervalsInYear (a b : Id) (year : Nat) : Nat :=
  let lo := max (intervalNumber a + 1) (intervalNumber { year := year, day := 1, index := 0 })
  let hi := min (intervalNumber b) (intervalNumber { year := year + 1, day := 1, index := 0 })
  hi - lo

end Sys2Proof.Machine
end

