-- ==== Sys2Proof/Machine/Formats.lean ====
section
/-! DEFINITION. The codes and byte layouts of ids, records, slots and notices (12, R196 and R197). -/

namespace Sys2Proof.Machine

/-! Codes. -/

/-- Slot kind codes (R197). -/
def SlotKind.code : SlotKind → Nat
  | .header => 1 | .interval => 2 | .day => 3 | .year1 => 4
  | .year2 => 5 | .notice => 6 | .copyEnd => 7 | .config => 8

/-- The slot kind of a code (R197). -/
def slotKindOf : Nat → Option SlotKind
  | 1 => some .header | 2 => some .interval | 3 => some .day | 4 => some .year1
  | 5 => some .year2 | 6 => some .notice | 7 => some .copyEnd | 8 => some .config
  | _ => none

/-- Frame kind codes (05, Frames and their kinds). -/
def FrameKind.code : FrameKind → Nat
  | .mark => 0x12 | .load => 0x24 | .result => 0x38
  | .answer => 0x4A | .statusReply => 0x4C | .items => 0x4E
  | .statusReq => 0x61 | .window => 0x63 | .read => 0x65 | .time => 0x67
  | .release => 0x69 | .configure => 0x6B | .start => 0x6D | .restart => 0x6F

/-- The frame kind of a code; every other code is none of the fourteen (R84). -/
def frameKindOf (c : Nat) : Option FrameKind :=
  [FrameKind.mark, .load, .result, .answer, .statusReply, .items, .statusReq, .window, .read, .time,
    .release, .configure, .start, .restart].find? (fun k => k.code == c)

/-- Analyser status codes (R197). -/
def analyserStatusOf : Nat → Option AnalyserStatus
  | 0 => some .measuring | 1 => some .overrange | 2 => some .calibrating | 3 => some .maintenance | 4 => some .fault
  | _ => none

/-- Fate codes (R197). -/
def Fate.code : Fate → Nat
  | .notOperating => 0 | .abnormal => 1 | .counted => 2 | .interrupted => 3

/-- The fate of a code. R158 does not check the code of a mirrored record: one outside the list is read as INTERRUPTED (log
entry 56). -/
def fateOf : Nat → Fate
  | 0 => .notOperating | 1 => .abnormal | 2 => .counted | _ => .interrupted

/-- Station state codes (R197). -/
def StationState.code : StationState → Nat
  | .scan => 0 | .setup => 1 | .untimed => 2 | .recording => 3 | .failed => 4

/-- Answer codes (R197). -/
def AnswerCode.code : AnswerCode → Nat
  | .done => 0 | .state => 1 | .range => 2 | .condition => 3 | .busy => 4

/-- Notice codes (R197). -/
def NoticeCode.code : NoticeCode → Nat
  | .gap => 1 | .abnBegin => 2 | .abnEnd => 3 | .cutoff => 4 | .release => 5
  | .clockAdjust => 6 | .start => 7 | .restart => 8 | .mirrorSacrificed => 9

/-- Cause codes (R197). -/
def Cause.code : Cause → Nat
  | .clean => 1 | .fire => 2 | .resumed => 3 | .cutoff => 4 | .trip => 5 | .reset => 6 | .limit => 7 | .budget => 8

/-- The cause code of a cutoff. -/
def CutoffCause.toCause : CutoffCause → Cause
  | .limit => .limit | .budget => .budget | .trip => .trip

/-- The cutoff cause of a code in a CUTOFF notice (R79); any other code is read as TRIP (log entry 56). -/
def cutoffCauseOf : Nat → CutoffCause
  | 7 => .limit | 8 => .budget | _ => .trip

/-- Item class codes (R197). -/
def ItemClass.code : ItemClass → Nat
  | .provisional => 1 | .pending => 2 | .stored => 3 | .absent => 4

/-- Load status codes (R197). -/
def LoadStatus.code : LoadStatus → Nat
  | .operating => 0 | .stopped => 1 | .invalid => 2

/-- The load status of a code (R118). -/
def loadStatusOf : Nat → Option LoadStatus
  | 0 => some .operating | 1 => some .stopped | 2 => some .invalid
  | _ => none

/-- Pollutant codes (R197). -/
def Pollutant.code : Pollutant → Nat
  | .dust => 0 | .toc => 1 | .hcl => 2 | .hf => 3 | .so2 => 4
  | .nox => 5 | .co => 6 | .nh3 => 7 | .hg => 8 | .other => 9

/-- The pollutant of a code (R197). -/
def pollutantOf : Nat → Option Pollutant
  | 0 => some .dust | 1 => some .toc | 2 => some .hcl | 3 => some .hf | 4 => some .so2
  | 5 => some .nox | 6 => some .co | 7 => some .nh3 | 8 => some .hg | 9 => some .other
  | _ => none

/-- Window kind codes (R197). -/
def WindowKind.code : WindowKind → Nat
  | .interval => 0 | .day => 1 | .notice => 2 | .year => 3

/-- The window kind of a code. -/
def windowKindOf : Nat → Option WindowKind
  | 0 => some .interval | 1 => some .day | 2 => some .notice | 3 => some .year
  | _ => none

/-- Recording state codes of the status reply (R197). -/
def RecordingState.code : RecordingState → Nat
  | .off => 0 | .waiting => 1 | .opened => 2

/-- Abnormal machine codes of the status reply (R197). -/
def AbnormalMachine.code : AbnormalMachine → Nat
  | .normal => 0 | .abnormal => 1 | .cutoff _ => 2

/-- Status bits of an interval entry: VALID 1, MAINT 2, FAULT 3 (R197). -/
def MinuteState.code : MinuteState → Nat
  | .valid => 1 | .maint => 2 | .fault => 3

/-- Status bits of a day entry: VALID 1, INVALID 2, NOT_OPERATING 3 (R197). -/
def DayStatus.code : DayStatus → Nat
  | .valid => 1 | .invalid => 2 | .notOperating => 3

/-- Header area codes (12, Block header). -/
def Area.code : Area → Nat
  | .own => 1 | .mirror => 2

/-- A flag as a number. -/
def bit (b : Bool) : Nat := if b then 1 else 0

/-- Bit `i` of a number. -/
def bitOf (n i : Nat) : Bool := n / 2 ^ i % 2 == 1

/-! Ids and times. -/

/-- An id in 4 bytes (R197). -/
def idBytes (i : Id) : List Byte := be 1 (i.year - 2000) ++ be 2 i.day ++ be 1 i.index

/-- An id or, for none, four bytes 0xFF (R196). -/
def optionIdBytes : Option Id → List Byte
  | some i => idBytes i
  | none => List.replicate 4 0xFF

/-- The id in 4 bytes from `off` (R197). -/
def readId (bytes : List Byte) (off : Nat) : Id :=
  { year := 2000 + field bytes off 1, day := field bytes (off + 1) 2, index := field bytes (off + 3) 1 }

/-- A minute id in 5 bytes (R197). -/
def minuteIdBytes (m : MinuteId) : List Byte := be 1 (m.year - 2000) ++ be 2 m.day ++ be 2 m.minute

/-- The minute id in 5 bytes from `off` (R197). -/
def readMinuteId (bytes : List Byte) (off : Nat) : MinuteId :=
  { year := 2000 + field bytes off 1, day := field bytes (off + 1) 2, minute := field bytes (off + 3) 2 }

/-- Station time in 6 bytes (R197). Untimed: the first byte is 0xFF and the others are free values (log entry 10).
At the end of a minute, before its close, the second is the minute's length (log entry 52). -/
def timeBytes : Option StationTime → List Byte
  | some t => be 1 (t.year - 2000) ++ be 2 t.day ++ be 2 t.minute ++ be 1 t.second
  | none => (0xFF : Byte) :: List.ofFn Config.untimedTimeByte

/-- A two-byte count whose chapter states no maximum: beyond 65,535 a free value (log entry 12). -/
def countBytes (n : Nat) : List Byte :=
  if n ≤ 65535 then be 2 n else be 2 (Config.overflowedCount n).toNat

/-! Flags bytes. -/

/-- A component's status-and-flags byte (R197); status 0 marks an unconfigured entry. -/
def statusFlagsByte (status : Nat) (f : ComponentFlags) : Nat :=
  status * 64 + bit f.substituted * 32 + bit f.clamped * 16 + bit f.overflow * 8 + bit f.shareSubstituted * 4
    + bit f.massIncomplete * 2 + bit f.exceeded

/-- The flags of a status-and-flags byte (R197). -/
def componentFlagsOf (n : Nat) : ComponentFlags :=
  { substituted := bitOf n 5, clamped := bitOf n 4, overflow := bitOf n 3, shareSubstituted := bitOf n 2,
    massIncomplete := bitOf n 1, exceeded := bitOf n 0 }

/-- A record's header flags byte (R197). -/
def headerFlagsByte (f : HeaderFlags) : Nat :=
  bit f.noFlow * 8 + bit f.isPartial * 4 + bit f.earlyClose * 2 + bit f.shareSubstituted

/-- The flags of a header flags byte (R197). -/
def headerFlagsOf (n : Nat) : HeaderFlags :=
  { noFlow := bitOf n 3, isPartial := bitOf n 2, earlyClose := bitOf n 1, shareSubstituted := bitOf n 0 }

/-! Slots. -/

/-- The slot of a kind with the given data, zero-filled to 128 bytes: the spare bytes hold the kind, the check over the
data and the kind, and zeros (R127, R196). -/
def makeSlot (kind : SlotKind) (data : List Byte) : SlotImage :=
  let d := padTo 128 data
  let k : Byte := BitVec.ofNat 8 kind.code
  { data := d, spare := k :: (be 2 (crc16 (d ++ [k])) ++ List.replicate 5 0) }

/-- The check of a slot agrees with its data and its slot kind (R127, R196). -/
def SlotImage.crcAgrees (i : SlotImage) : Bool :=
  crc16 (i.data ++ i.spare.take 1) == field i.spare 1 2

/-- The slot kind, judged by the spare bytes (R196). -/
def SlotImage.kind (i : SlotImage) : Option SlotKind := slotKindOf (field i.spare 0 1)

/-- A slot is good when its check agrees and its two kind bytes agree; otherwise it is treated as VOID (R127, R196). -/
def SlotImage.good (i : SlotImage) : Bool :=
  i.crcAgrees && field i.data 0 1 == field i.spare 0 1

/-- The good image in a slot, or none when the slot is VOID. -/
def SlotContent.good? : SlotContent → Option SlotImage
  | .image i => if i.good then some i else none
  | .void => none

/-! Records. -/

/-- A component entry of an interval record in 14 bytes; an unconfigured component's is all zeros (R51, R197). -/
def intervalEntryBytes : Option IntervalEntry → List Byte
  | some e => beSigned 4 e.mean ++ be 4 e.validated ++ be 4 e.mass ++ be 1 e.valid
      ++ be 1 (statusFlagsByte e.status.code e.flags)
  | none => List.replicate 14 0

/-- An interval record's data (R197). -/
def intervalData (r : IntervalRecord) : List Byte :=
  be 1 SlotKind.interval.code ++ be 1 r.origin ++ idBytes r.id ++ be 1 r.fate.code ++ be 1 (headerFlagsByte r.flags)
    ++ be 1 r.operating ++ be 1 r.abnormal ++ be 2 r.o2Mean ++ be 4 r.qsMean
    ++ (r.components.map intervalEntryBytes).flatten

/-- The component entry of an interval record at its place; status 0 marks an unconfigured entry (R197),
whatever its other bytes hold (log entry 56). -/
def readIntervalEntry (d : List Byte) (n : Nat) : Option IntervalEntry :=
  let off := 16 + 14 * n
  let sf := field d (off + 13) 1
  let entry (st : MinuteState) : IntervalEntry :=
    { mean := fieldSigned d off 4, validated := field d (off + 4) 4, mass := field d (off + 8) 4,
      valid := field d (off + 12) 1, status := st, flags := componentFlagsOf sf }
  match sf / 64 with
  | 0 => none
  | 1 => some (entry .valid)
  | 2 => some (entry .maint)
  | _ => some (entry .fault)

/-- The interval record in a slot's data (R197). -/
def readInterval (d : List Byte) : IntervalRecord :=
  { origin := field d 1 1, id := readId d 2, fate := fateOf (field d 6 1), flags := headerFlagsOf (field d 7 1),
    operating := field d 8 1, abnormal := field d 9 1, o2Mean := field d 10 2, qsMean := field d 12 4,
    components := (List.range 8).map (readIntervalEntry d) }

/-- A component entry of a day record in 12 bytes; an unconfigured component is all zeros (R57, R197). -/
def dayEntryBytes : Option DayEntry → List Byte
  | some e => be 4 e.mean ++ be 4 e.mass ++ be 1 e.counted ++ be 1 e.valid ++ be 1 e.notValid
      ++ be 1 (statusFlagsByte e.status.code e.flags)
  | none => List.replicate 12 0

/-- A day record's data: the Qs mean is in units of 256 m³/h, rounded (R197). -/
def dayData (r : DayRecord) : List Byte :=
  be 1 SlotKind.day.code ++ be 1 r.origin ++ idBytes r.day ++ be 1 0 ++ be 1 (headerFlagsByte r.flags)
    ++ be 2 r.operating ++ be 2 r.abnormal ++ be 2 r.o2Mean ++ be 2 (roundDiv r.qsMean 256).toNat
    ++ (r.components.map dayEntryBytes).flatten ++ be 1 r.intervals

/-- The component entry of a day record at its place; status 0 marks an unconfigured entry (R197), whatever its other bytes
hold (log entry 56). -/
def readDayEntry (d : List Byte) (n : Nat) : Option DayEntry :=
  let off := 16 + 12 * n
  let sf := field d (off + 11) 1
  let entry (st : DayStatus) : DayEntry :=
    { mean := field d off 4, mass := field d (off + 4) 4, counted := field d (off + 8) 1, valid := field d (off + 9) 1,
      notValid := field d (off + 10) 1, status := st, flags := componentFlagsOf sf }
  match sf / 64 with
  | 0 => none
  | 1 => some (entry .valid)
  | 2 => some (entry .invalid)
  | _ => some (entry .notOperating)

/-- The component entries of the day record in a slot's data. -/
def readDayEntries (d : List Byte) : List (Option DayEntry) := (List.range 8).map (readDayEntry d)

/-- A component entry of a YEAR record in 18 bytes (R60, R197). -/
def yearEntryBytes (t : YearTotals) : List Byte :=
  countBytes t.counted ++ countBytes t.valid ++ countBytes t.exceeding ++ countBytes t.operatingDays
    ++ countBytes t.validDays ++ countBytes t.invalidDays ++ countBytes t.exceedingDays
    ++ be 4 (saturateU32 (roundDiv t.mass 1000).toNat)

/-- The first 16 bytes of a YEAR part: the id is the day id of the year's last day (R197). -/
def yearHead (kind : SlotKind) (origin year part : Nat) : List Byte :=
  be 1 kind.code ++ be 1 origin ++ idBytes (dayId year (daysInYear year)) ++ be 1 part ++ List.replicate 9 0

/-- Part 1 of the YEAR record: the station totals and components 1 to 4 (R60, R197). -/
def year1Data (origin year : Nat) (y : YearSummary) : List Byte :=
  yearHead .year1 origin year 1 ++ be 4 y.operating ++ be 4 y.abnormal ++ countBytes y.episodes ++ countBytes y.cutoffs
    ++ be 4 y.gapIntervals ++ countBytes y.interrupted ++ ((y.components.take 4).map yearEntryBytes).flatten

/-- Part 2 of the YEAR record: components 5 to 8 (R60, R197). -/
def year2Data (origin year : Nat) (y : YearSummary) : List Byte :=
  yearHead .year2 origin year 2 ++ (((y.components.drop 4).take 4).map yearEntryBytes).flatten

/-- A notice record's data (R197). -/
def noticeData (origin : Nat) (time : Option StationTime) (code : NoticeCode) (params : List Byte) : List Byte :=
  be 1 SlotKind.notice.code ++ be 1 origin ++ timeBytes time ++ be 1 code.code ++ be 1 params.length ++ params

/-- A header slot's data; area code 3 is RETIRED (12, Block header). -/
def headerData (area sequence replaces : Nat) : List Byte :=
  be 1 SlotKind.header.code ++ be 1 area ++ be 4 sequence ++ be 4 replaces

/-- A COPY_END slot's data (12, COPY_END). -/
def copyEndData (sourceSequence recordSlot : Nat) : List Byte :=
  be 1 SlotKind.copyEnd.code ++ be 4 sourceSequence ++ be 2 recordSlot

/-! What a reader takes from a slot. -/

/-- The origin byte of a record. -/
def SlotImage.origin (i : SlotImage) : Nat := field i.data 1 1

/-- The id of an interval, day or YEAR record (R197). -/
def SlotImage.id (i : SlotImage) : Id := readId i.data 2

/-- The date of a record: its day id; for a YEAR part the last day of its year; for a notice the day of its time, and a
notice without a time has none; headers, COPY_END and config slots have none (R129). -/
def SlotImage.date (i : SlotImage) : Option Id :=
  match i.kind with
  | some .interval => some i.id.toDay
  | some .day => some i.id.toDay
  | some .year1 => some (dayId i.id.year (daysInYear i.id.year))
  | some .year2 => some (dayId i.id.year (daysInYear i.id.year))
  | some .notice => if field i.data 2 1 = 255 then none else some (readId i.data 2).toDay
  | _ => none

/-- The notice code byte of a notice. -/
def SlotImage.noticeCode (i : SlotImage) : Nat := field i.data 8 1

/-- The parameter bytes of a notice. -/
def SlotImage.noticeParams (i : SlotImage) : List Byte := i.data.drop 10

/-! The config slot (12, Config slot): fields packed bit by bit, most significant bit first. -/

/-- Fields (value, width in bits) packed into one number, the first field highest. -/
def packFields (fields : List (Nat × Nat)) : Nat :=
  fields.foldl (fun n f => n * 2 ^ f.2 + f.1 % 2 ^ f.2) 0

/-- The fields of the given widths, the first highest, out of one number of their total width. -/
def unpackFields (n : Nat) : List Nat → List Nat
  | [] => []
  | w :: ws => n / 2 ^ ws.sum % 2 ^ w :: unpackFields n ws

/-- A channel code of a role, 31 for NONE. -/
def roleCode : Option Nat → Nat
  | some c => c
  | none => 31

/-- The channel of a role code. -/
def roleOfCode (c : Nat) : Option Nat := if c = 31 then none else some c

/-- The widths of one component's fields. -/
def componentWidths : List Nat := [1, 4, 4, 1, 1, 1, 21, 21, 21, 23]

/-- The widths of the fields before the components. -/
def imageWidths : List Nat := [32, 4, 5, 5, 5, 5, 5, 5, 1, 11, 11, 10, 5, 4, 3, 3, 9, 13, 3, 4, 4, 4]

/-- All widths of a config slot: 935 bits. -/
def configWidths : List Nat := imageWidths ++ (List.replicate 8 componentWidths).flatten

/-- The field values of one component. -/
def componentValues : Option ComponentConfig → List Nat
  | some c => [1, c.channel, c.pollutant.code, bit c.wet, bit c.actual, bit c.aboveOnly, c.intervalLimit, c.dayLimit,
      c.deduction, c.ceiling]
  | none => List.replicate 10 0

/-- A config slot's data. -/
def configData (sequence station : Nat) (m : ConfigImage) : List Byte :=
  let values := [sequence, station, roleCode m.o2, roleCode m.h2o, roleCode m.temp, roleCode m.press, roleCode m.flow,
      roleCode m.load, bit (m.flowBasis == .actualWet), m.o2Reference, m.o2Cap, m.minReadings, m.minValidMinutes,
      m.dayAllowance, m.settleMinutes, m.holdMinutes, m.continuousLimit, m.yearBudget, m.stackGroup,
      m.partners.getD 0 0, m.partners.getD 1 0, m.partners.getD 2 0] ++ (m.components.map componentValues).flatten
  be 1 SlotKind.config.code ++ be 117 (packFields (values.zip configWidths) * 2)

/-- The component of ten field values; a pollutant code outside the list is read as OTHER (log entry 56). -/
def componentOfValues (v : List Nat) : Option ComponentConfig :=
  if v.getD 0 0 = 0 then none
  else some { channel := v.getD 1 0, pollutant := (pollutantOf (v.getD 2 0)).getD .other, wet := v.getD 3 0 == 1,
              actual := v.getD 4 0 == 1, aboveOnly := v.getD 5 0 == 1, intervalLimit := v.getD 6 0,
              dayLimit := v.getD 7 0, deduction := v.getD 8 0, ceiling := v.getD 9 0 }

/-- The sequence, station number and image of a config slot's data. -/
def readConfig (d : List Byte) : Nat × Nat × ConfigImage :=
  let v := unpackFields (field d 1 117 / 2) configWidths
  let g := fun i => v.getD i 0
  (g 0, g 1,
    { o2 := roleOfCode (g 2), h2o := roleOfCode (g 3), temp := roleOfCode (g 4), press := roleOfCode (g 5),
      flow := roleOfCode (g 6), load := roleOfCode (g 7), flowBasis := if g 8 = 1 then .actualWet else .stdDry,
      o2Reference := g 9, o2Cap := g 10, minReadings := g 11, minValidMinutes := g 12, dayAllowance := g 13,
      settleMinutes := g 14, holdMinutes := g 15, continuousLimit := g 16, yearBudget := g 17, stackGroup := g 18,
      partners := [g 19, g 20, g 21].filter (fun p => p != 0),
      components := (List.range 8).map (fun n => componentOfValues (v.drop (22 + 10 * n))) })

end Sys2Proof.Machine
end

