-- ==== Sys2Proof/Machine/State.lean ====
section
/-! DEFINITION. The state of the station as plain data: one structure per block of the manual, holding what that block
owns, with the value after power-on reset as each field's default; the reasons a command could stop for; and the state
right after reset. -/

namespace Sys2Proof.Machine

/-! The fixed tables as a reset leaves them. -/

/-- The 16 channel entries, nothing captured (R20). -/
def emptyChannels : List ChannelEntry := List.replicate 16 {}

/-- The eight load share entries, none present (R126). -/
def absentEntries : List (Option ShareEntry) := List.replicate 8 none

/-- The block table before the scan: block 0 for the configuration, and 255 pool blocks (R129; log entry 4). -/
def blankBlocks : List BlockEntry := { state := .config } :: List.replicate 255 { state := .erased }

/-- The eight origin entries, no id known (R166). -/
def emptyOrigins : List OriginEntry := List.replicate 8 {}

/-- The four readout windows, none present (R182). -/
def absentWindows : List (Option Window) := List.replicate 4 none

/-- The four deferred answers, none held (R182). -/
def noDeferred : List (Option Nat) := List.replicate 4 none

/-! The blocks of the station. -/

/-- Intake unit (01); reset values R20. -/
structure Intake where
  partialFrame : List Byte := []
  channels : List ChannelEntry := emptyChannels
  frameErrors : Nat := 0
  crowdedMinutes : Nat := 0
  overflowMinutes : Nat := 0
  faultMinutes : Nat := 0
  deriving DecidableEq, Repr, Inhabited

/-- Normalisation unit (02); reset values R38. -/
structure Norm where
  o2 : HeldValue := {}
  h2o : HeldValue := {}
  temp : HeldValue := {}
  press : HeldValue := {}
  flow : HeldValue := {}
  deriving DecidableEq, Repr, Inhabited

/-- Period unit (03); reset values R63. -/
structure Period where
  recording : RecordingState := .off
  lastOwn : Option Id := none
  openInterval : Option OpenInterval := none
  openDay : Option OpenDay := none
  summary : YearSummary := {}
  summaryYear : Option Nat := none
  deriving DecidableEq, Repr, Inhabited

/-- Plant signal unit (04); reset values R80. The untimed minute timer is stopped (`none`) or holds the microseconds it
has run. -/
structure Plant where
  fire : Bool := false
  feed : Bool := false
  clean : Bool := false
  trip : Bool := false
  operating : Bool := false
  abnormalFlag : Bool := false
  closedOperating : Bool := false
  closedAbnormal : Bool := false
  machine : AbnormalMachine := .normal
  continuous : Nat := 0
  yearCount : Nat := 0
  countYear : Option Nat := none
  untimed : Option Nat := none
  recordLoss : Bool := false
  permit : Bool := false
  faultLine : Bool := true
  deriving DecidableEq, Repr, Inhabited

/-- Station clock (06); reset values R114. The timed flag is the presence of a station time. -/
structure Clock where
  time : Option StationTime := none
  minuteLength : Nat := 60
  staged : Option StagedAdjustment := none
  lastClosed : Option LastClosed := none
  disagreements : Nat := 0
  deriving DecidableEq, Repr, Inhabited

/-- Load share unit (07); reset values R126. -/
structure ShareUnit where
  entries : List (Option ShareEntry) := absentEntries
  fireSeen : Bool := false
  lastShare : Option Share := none
  deriving DecidableEq, Repr, Inhabited

/-- Link controller (05); reset values R98. -/
structure Link where
  receiver : Receiver := .waitIdle
  characters : List Byte := []
  queue : List TxEntry := []
  attempt : Option Nat := none
  linkFault : Bool := false
  receiveErrors : Nat := 0
  transmitErrors : Nat := 0
  resultMisses : Nat := 0
  expiredFrames : Nat := 0
  addressClashes : Nat := 0
  deadlineTimer : Nat := 0
  deriving DecidableEq, Repr, Inhabited

/-- Record store (08); reset values R155. The die is a list of (1,024 × block + slot, contents) pairs, addresses strictly
rising; an unlisted slot is erased. -/
structure Store where
  die : List (Nat × SlotContent) := []
  blocks : List BlockEntry := blankBlocks
  erasedList : List Nat := []
  sequenceCounter : Nat := 1
  ownQueue : List SlotImage := []
  mirrorQueue : List SlotImage := []
  ownStalled : Bool := false
  mirrorStalled : Bool := false
  programmer : Option ProgOp := none
  relocation : Option Relocation := none
  cleanup : List CleanupEntry := []
  index : List IndexEntry := []
  indexYear : Option Nat := none
  configSlot : Option Nat := none
  configNext : Nat := 0
  configSequence : Option Nat := none
  configWrite : Option ConfigWrite := none
  failed : Bool := false
  ownLosses : Nat := 0
  relocations : Nat := 0
  deriving DecidableEq, Repr, Inhabited

/-- Partner mirroring (09); reset values R166. -/
structure Mirror where
  origins : List OriginEntry := emptyOrigins
  deriving DecidableEq, Repr, Inhabited

/-- Readout unit (10); reset values R182. -/
structure Readout where
  windows : List (Option Window) := absentWindows
  deferred : List (Option Nat) := noDeferred
  waiting : List WaitingRead := []
  serial : Nat := 0
  deriving DecidableEq, Repr, Inhabited

/-- Station controller (11); reset values R195. -/
structure Controller where
  state : StationState := .scan
  station : Nat := 8
  inForce : Option InForce := none
  edit : ConfigImage := {}
  pendingStart : Option PendingStart := none
  deriving DecidableEq, Repr, Inhabited

/-- The whole station, the free-value counter of the model, and the queue of waiting commands. -/
structure State where
  intake : Intake := {}
  norm : Norm := {}
  period : Period := {}
  plant : Plant := {}
  clock : Clock := {}
  share : ShareUnit := {}
  link : Link := {}
  store : Store := {}
  mirror : Mirror := {}
  readout : Readout := {}
  ctrl : Controller := {}
  freeCount : Nat := 0
  pending : List Instr := []
  deriving DecidableEq, Repr, Inhabited

/-- The reasons a command could stop the station with a fault. There is none: the manual names no event that halts the
station, so the type has no constructor (safe: nothing can be raised). -/
inductive Fault where
  deriving DecidableEq, Repr

/-- The reasons a command could be refused. -/
inductive Refusal where
  /-- Raised by a refused arm of `exec` alone, for a command that has no meaning yet; safe, since the model stops.
  No arm of this model raises it. -/
  | notModelled (mnemonic : String)
  deriving DecidableEq, Repr

/-- The station right after power-on reset (R20, R38, R63, R80, R98, R114, R126, R155, R166, R182, R195): state SCAN,
clock untimed, queues empty, PERMIT inactive and FAULT active. DESIGN CHOICE, unsafe (log entry 3): the strap pins read
0, which R183 gives as station number 8; the four inputs are inactive; the die is blank. -/
def State.reset : State := {}

end Sys2Proof.Machine
end

