-- ==== Sys2Proof/Machine/Flags.lean ====
section
/-! DEFINITION. The decisions that give the station's lines, fates, statuses and flags (R16, R32, R48 to R50, R56, R77,
R78). -/

namespace Sys2Proof.Machine

/-- The machine is in CUTOFF. -/
def AbnormalMachine.isCutoff : AbnormalMachine → Bool
  | .cutoff _ => true
  | _ => false

/-- R77: PERMIT is active when the machine is not in CUTOFF and the station state is UNTIMED or RECORDING. -/
def decidePermit (m : AbnormalMachine) (s : StationState) : Bool :=
  !m.isCutoff && (s == .untimed || s == .recording)

/-- R78: FAULT is active in SCAN, SETUP, UNTIMED and FAILED, and in RECORDING while the record-loss mark is set. -/
def decideFault (loss : Bool) (s : StationState) : Bool := s != .recording || loss

/-- R16: the state of a channel's minute. -/
def minuteState (acc : MinuteAcc) (nullified : Bool) (minReadings : Nat) : MinuteState :=
  if nullified then .maint
  else if minReadings ≤ acc.count && !acc.overflow then .valid
  else if acc.maintSeen then .maint
  else .fault

/-- R32: the state of a component minute. -/
def componentMinuteState (channel : MinuteState) (complete saturated : Bool) : MinuteState :=
  if channel == .valid && complete && !saturated then .valid
  else if channel == .maint then .maint
  else .fault

/-- R48: the fate of an interval. -/
def decideFate (interrupted : Bool) (operating abnormal : Nat) : Fate :=
  if interrupted then .interrupted
  else if operating = 0 then .notOperating
  else if 1 ≤ abnormal then .abnormal
  else .counted

/-- R49: the interval status of a component. -/
def intervalStatus (valid maint fault minValid : Nat) : MinuteState :=
  if minValid ≤ valid then .valid else if fault ≤ maint then .maint else .fault

/-- R56: the day status of a component. -/
def dayStatus (counted valid allowance : Nat) : DayStatus :=
  if counted = 0 then .notOperating
  else if 1 ≤ valid && counted - valid ≤ allowance then .valid
  else .invalid

/-- Flags set on either side. -/
def ComponentFlags.union (a b : ComponentFlags) : ComponentFlags :=
  { substituted := a.substituted || b.substituted, clamped := a.clamped || b.clamped, overflow := a.overflow || b.overflow,
    shareSubstituted := a.shareSubstituted || b.shareSubstituted, massIncomplete := a.massIncomplete || b.massIncomplete,
    exceeded := a.exceeded || b.exceeded }

/-- The levels byte of a CUTOFF notice: FIRE bit 3, FEED bit 2, CLEAN bit 1, TRIP bit 0 (R197). -/
def levelsByte (p : Plant) : Nat := bit p.fire * 8 + bit p.feed * 4 + bit p.clean * 2 + bit p.trip

/-- The byte of the status reply with PERMIT at bit 5, FAULT at bit 4 and the inputs below (R197). -/
def linesByte (p : Plant) : Nat := bit p.permit * 32 + bit p.faultLine * 16 + levelsByte p

end Sys2Proof.Machine
end

