-- ==== Sys2Proof/Machine/Operands.lean ====
section
/-! DEFINITION. What a command's bytes say: the checks of a link frame (R84) and the fields of every payload (R197). -/

namespace Sys2Proof.Machine

/-- The three classes of frame kinds (05, Frames and their kinds). -/
inductive FrameClass where
  | broadcast | reply | request
  deriving DecidableEq, Repr

/-- The class of a kind. -/
def FrameKind.frameClass : FrameKind → FrameClass
  | .mark | .load | .result => .broadcast
  | .answer | .statusReply | .items => .reply
  | .statusReq | .window | .read | .time | .release | .configure | .start | .restart => .request

/-- A station number. -/
def isStation (n : Nat) : Bool := 1 ≤ n && n ≤ 8

/-- A terminal address. -/
def isTerminal (n : Nat) : Bool := 12 ≤ n && n ≤ 15

/-- R84, check 3: the senders a class allows. -/
def senderAllowed (k : FrameKind) (sender : Nat) : Bool :=
  match k.frameClass with
  | .broadcast => isStation sender
  | .reply => isStation sender
  | .request => isTerminal sender

/-- R84, check 4: the targets a class allows. -/
def targetAllowed (k : FrameKind) (target : Nat) : Bool :=
  match k.frameClass with
  | .broadcast => target == 0
  | .reply => isTerminal target
  | .request => target == 0 || isStation target

/-- R84, check 5 and R197: the payload lengths a kind allows. -/
def lengthAllowed (k : FrameKind) (len : Nat) : Bool :=
  match k with
  | .mark => len == 4
  | .load => len == 10
  | .result => len == 136
  | .answer => len == 2
  | .statusReply => 15 ≤ len && len ≤ 136
  | .items => 3 ≤ len && len ≤ 123
  | .statusReq => len == 1
  | .window => len == 14
  | .read => len == 1
  | .time => len == 6
  | .release => len == 0
  | .configure => len == 7 || len == 10 || len == 12 || len == 23
  | .start => len == 0
  | .restart => len == 0

/-- R84, checks 3 to 5, of a frame of a known kind. -/
def frameAllowed (k : FrameKind) (sender target : Nat) (payload : List Byte) : Bool :=
  senderAllowed k sender && targetAllowed k target && lengthAllowed k payload.length

/-- R84, checks 1 to 5, of the characters of a complete frame: kind, sender, target, length, payload, check. -/
def charactersPass (c : List Byte) : Bool :=
  let len := field c 3 1
  c.length == 6 + len && crc16 (c.take (4 + len)) == field c (4 + len) 2 &&
    match frameKindOf (field c 0 1) with
    | some k => frameAllowed k (field c 1 1) (field c 2 1) ((c.drop 4).take len)
    | none => false

/-- The characters of a frame the station sends, check included (R83, R196). -/
def frameCharacters (k : FrameKind) (sender target : Nat) (payload : List Byte) : List Byte :=
  let body := be 1 k.code ++ be 1 sender ++ be 1 target ++ be 1 payload.length ++ payload
  body ++ be 2 (crc16 body)

/-- R86: of the frames that pass the checks, those a station of this number accepts. -/
def acceptedHere (station : Nat) (k : FrameKind) (target : Nat) : Bool :=
  match k.frameClass with
  | .broadcast => true
  | .reply => false
  | .request => target == station || (target == 0 && (k == .statusReq || k == .time))

/-! Broadcasts. -/

/-- The interval id a MARK names (R103). -/
def markId (payload : List Byte) : Id := readId payload 0

/-- R103: an id is usable when it is real and the interval after it lies within the clock's range. -/
def usableMark (i : Id) : Bool :=
  realInterval i && !(i.year == 2099 && i.day == 365 && i.index == 47)

/-- The fields of a LOAD frame (R118, R197). -/
structure LoadFields where
  group : Nat
  minute : MinuteId
  load : Nat
  status : Option LoadStatus
  deriving DecidableEq, Repr

/-- The fields of a LOAD payload: group, minute id, load, load status. -/
def loadFields (payload : List Byte) : LoadFields :=
  { group := field payload 0 1, minute := readMinuteId payload 1, load := field payload 6 3,
    status := loadStatusOf (field payload 9 1) }

/-- R118: the content check of a LOAD; the report it carries, a STOPPED or INVALID one with load 0. -/
def loadReport (f : LoadFields) : Option LoadReport :=
  if 1 ≤ f.group && f.group ≤ 4 && realMinute f.minute then
    match f.status with
    | some .operating =>
      if f.load ≤ 8388607 then some { minute := f.minute, load := f.load, status := .operating } else none
    | some .stopped => some { minute := f.minute, load := 0, status := .stopped }
    | some .invalid => some { minute := f.minute, load := 0, status := .invalid }
    | none => none
  else none

/-- The slot a RESULT carries: data bytes 0 to 127, then the spare bytes (R156). -/
def resultSlot (payload : List Byte) : SlotImage :=
  { data := payload.take 128, spare := payload.drop 128 }

/-- R158: the content check of a RESULT. -/
def resultContentOk (sender : Nat) (i : SlotImage) : Bool :=
  i.crcAgrees && i.origin == sender &&
    match i.kind with
    | some .interval => realInterval i.id
    | some .day => realDay i.id.year i.id.day
    | some .year1 => realDay i.id.year i.id.day
    | some .year2 => realDay i.id.year i.id.day
    | _ => false

/-! Requests. A payload with a field outside the codes of R197 reads as none, which R167 answers RANGE. -/

/-- The section a STATUS_REQ names. -/
def statusSection (payload : List Byte) : Option StatusSection :=
  match field payload 0 1 with
  | 0 => some .general
  | 1 => some .counts
  | 2 => some .sharing
  | 3 => some .mirroring
  | _ => none

/-- The fields of a WINDOW request (R170). -/
structure WindowFields where
  origin : Nat
  kind : WindowKind
  first : Id
  last : Id
  firstComponent : Nat
  lastComponent : Nat
  order : WindowOrder
  direction : WindowDirection
  deriving DecidableEq, Repr

/-- The layout an id of a window kind has: 0xFF in the fourth byte of a day id and in the last three of a year
(R197; log entry 23). -/
def idLayoutOk (k : WindowKind) (i : Id) : Bool :=
  match k with
  | .interval => true
  | .day => i.index == 255
  | .notice => i.index == 255
  | .year => i.day == 65535 && i.index == 255

/-- R170, check 1: a real id of its kind. -/
def realWindowId (k : WindowKind) (i : Id) : Bool :=
  match k with
  | .interval => realInterval i
  | .day => realDay i.year i.day
  | .notice => realDay i.year i.day
  | .year => 2000 ≤ i.year && i.year ≤ 2099

/-- The fields of a WINDOW payload, or none for a code outside R197. -/
def windowFields (p : List Byte) : Option WindowFields :=
  match windowKindOf (field p 1 1) with
  | none => none
  | some k =>
    let first := readId p 2
    let last := readId p 6
    if field p 12 1 ≤ 1 && field p 13 1 ≤ 1 && idLayoutOk k first && idLayoutOk k last then
      some { origin := field p 0 1, kind := k, first := first, last := last, firstComponent := field p 10 1,
             lastComponent := field p 11 1,
             order := if field p 12 1 = 0 then .recordMajor else .componentMajor,
             direction := if field p 13 1 = 0 then .forward else .backward }
    else none

/-- The repeat field of a READ, or none for a value other than 0 and 1. -/
def readRepeat (p : List Byte) : Option Bool :=
  match field p 0 1 with
  | 0 => some false
  | 1 => some true
  | _ => none

/-- The target time of a TIME request: year, day, minute and second (R108). -/
structure TimeFields where
  year : Nat
  day : Nat
  minute : Nat
  second : Nat
  deriving DecidableEq, Repr

/-- The fields of a TIME payload (R197). -/
def timeFields (p : List Byte) : TimeFields :=
  { year := 2000 + field p 0 1, day := field p 1 2, minute := field p 3 2, second := field p 5 1 }

/-- R108: the check of a target; the last minute of day 365 of 2099 is refused with the rest. -/
def targetTimeOk (t : TimeFields) : Bool :=
  realDay t.year t.day && t.minute ≤ 1439 && t.second ≤ 59 && !(t.year == 2099 && t.day == 365 && t.minute == 1439)

/-- The target as a station time. -/
def TimeFields.toTime (t : TimeFields) : StationTime :=
  { year := t.year, day := t.day, minute := t.minute, micros := t.second * 1000000 }

/-- The parts of the edit image a CONFIGURE names (R185); channel and partner values as they stand in the bytes. -/
inductive ConfigurePart where
  | component (n : Nat) (c : Option ComponentConfig)
  | channels (codes : List Nat)
  | processing (basis : FlowBasis) (o2Reference o2Cap minReadings minValid dayAllowance settle hold : Nat)
  | plant (limit budget group : Nat) (partners : List Nat)
  deriving DecidableEq, Repr

/-- A COMPONENT part's fields after the part code; when configured is 0 the others are not examined (R197). -/
def componentPart (n : Nat) (p : List Byte) : Option ConfigurePart :=
  match field p 1 1 with
  | 0 => some (.component n none)
  | 1 =>
    match pollutantOf (field p 3 1) with
    | none => none
    | some pol =>
      if field p 4 1 ≤ 1 && field p 5 1 ≤ 1 && field p 6 1 ≤ 1 then
        some (.component n (some
          { channel := field p 2 1, pollutant := pol, wet := field p 4 1 == 1, actual := field p 5 1 == 1,
            aboveOnly := field p 6 1 == 1, intervalLimit := field p 7 4, dayLimit := field p 11 4,
            deduction := field p 15 4, ceiling := field p 19 4 }))
      else none
  | _ => none

/-- The part a CONFIGURE payload names; none for an unknown part, a length of another part, or a field outside the codes
of R197, which are answered RANGE under R167. -/
def configurePart (p : List Byte) : Option ConfigurePart :=
  let code := field p 0 1
  if 1 ≤ code && code ≤ 8 then
    if p.length = 23 then componentPart code p else none
  else if code = 9 then
    if p.length = 7 then some (.channels ((p.drop 1).map (fun b => b.toNat))) else none
  else if code = 10 then
    if p.length = 12 && field p 1 1 ≤ 1 then
      some (.processing (if field p 1 1 = 0 then .stdDry else .actualWet) (field p 2 2) (field p 4 2) (field p 6 2)
        (field p 8 1) (field p 9 1) (field p 10 1) (field p 11 1))
    else none
  else if code = 11 then
    if p.length = 10 && field p 6 1 ≤ 3 then
      some (.plant (field p 1 2) (field p 3 2) (field p 5 1)
        (((p.drop 7).take (field p 6 1)).map (fun b => b.toNat)))
    else none
  else none

/-- The values a component record may carry (11, The configuration image; R185). -/
def componentInRange (c : ComponentConfig) : Bool :=
  c.channel ≤ 15 && 1 ≤ c.intervalLimit && c.intervalLimit ≤ 2000000 && 1 ≤ c.dayLimit && c.dayLimit ≤ 2000000 &&
    c.deduction ≤ c.intervalLimit && 1 ≤ c.ceiling && c.ceiling ≤ 8388607

/-- R185: every value of the part lies in its range. -/
def partInRange (station : Nat) : ConfigurePart → Bool
  | .component _ none => true
  | .component _ (some c) => componentInRange c
  | .channels codes => codes.all (fun c => c ≤ 15 || c == 255)
  | .processing _ o2r cap mr mv da st ho =>
    300 ≤ o2r && o2r ≤ 1700 && 1500 ≤ cap && cap ≤ 2000 && 1 ≤ mr && mr ≤ 600 && 1 ≤ mv && mv ≤ 30 && da ≤ 10 &&
      st ≤ 5 && ho ≤ 5
  | .plant lim bud grp ps =>
    1 ≤ lim && lim ≤ 480 && bud ≤ 6000 && grp ≤ 4 && ps.all (fun p => isStation p && p != station) && decide ps.Nodup

/-- A channel code of CHANNELS, 0xFF for NONE (R197). -/
def channelCode (c : Nat) : Option Nat := if c = 255 then none else some c

/-- The part of the edit image replaced whole (R185). -/
def applyPart (m : ConfigImage) : ConfigurePart → ConfigImage
  | .component n c => { m with components := m.components.set (n - 1) c }
  | .channels cs =>
    { m with o2 := channelCode (cs.getD 0 255), h2o := channelCode (cs.getD 1 255), temp := channelCode (cs.getD 2 255),
             press := channelCode (cs.getD 3 255), flow := channelCode (cs.getD 4 255),
             load := channelCode (cs.getD 5 255) }
  | .processing b o2r cap mr mv da st ho =>
    { m with flowBasis := b, o2Reference := o2r, o2Cap := cap, minReadings := mr, minValidMinutes := mv,
             dayAllowance := da, settleMinutes := st, holdMinutes := ho }
  | .plant lim bud grp ps =>
    { m with continuousLimit := lim, yearBudget := bud, stackGroup := grp, partners := ps }

/-- The configured components of an image. -/
def ConfigImage.configured (m : ConfigImage) : List ComponentConfig := m.components.filterMap (fun c => c)

/-- The channel codes named for roles, components first (R187, check 7). -/
def ConfigImage.namedChannels (m : ConfigImage) : List Nat :=
  m.configured.map (fun c => c.channel) ++ [m.o2, m.h2o, m.temp, m.press, m.flow, m.load].filterMap (fun c => c)

/-- R187: the seven checks of a START. -/
def startAllowed (m : ConfigImage) : Bool :=
  !m.configured.isEmpty &&
  m.o2.isSome &&
  (!(m.configured.any (fun c => c.wet) || m.flowBasis == .actualWet) || m.h2o.isSome) &&
  (!(m.configured.any (fun c => c.actual) || m.flowBasis == .actualWet) || (m.temp.isSome && m.press.isSome)) &&
  (!(1 ≤ m.stackGroup && m.stackGroup ≤ 4) || m.load.isSome) &&
  decide (m.o2Reference < m.o2Cap) &&
  decide m.namedChannels.Nodup

end Sys2Proof.Machine
end

