-- ==== Sys2Proof/Machine/Ops.lean ====
section
/-! DEFINITION. The named operations every command is written with: the updates of the state, the output lines, the flash
die, the own record queue and its notices, the transmit queue, and the passing of time. -/

namespace Sys2Proof.Machine

/-! Updates, one per block. -/

/-- The state with another `intake`. -/
def State.setIntake (s : State) (x : Intake) : State := { s with intake := x }

/-- The state with another `norm`. -/
def State.setNorm (s : State) (x : Norm) : State := { s with norm := x }

/-- The state with another `period`. -/
def State.setPeriod (s : State) (x : Period) : State := { s with period := x }

/-- The state with another `plant`. -/
def State.setPlant (s : State) (x : Plant) : State := { s with plant := x }

/-- The state with another `clock`. -/
def State.setClock (s : State) (x : Clock) : State := { s with clock := x }

/-- The state with another `share`. -/
def State.setShare (s : State) (x : ShareUnit) : State := { s with share := x }

/-- The state with another `link`. -/
def State.setLink (s : State) (x : Link) : State := { s with link := x }

/-- The state with another `store`. -/
def State.setStore (s : State) (x : Store) : State := { s with store := x }

/-- The state with another `mirror`. -/
def State.setMirror (s : State) (x : Mirror) : State := { s with mirror := x }

/-- The state with another `readout`. -/
def State.setReadout (s : State) (x : Readout) : State := { s with readout := x }

/-- The state with another `ctrl`. -/
def State.setCtrl (s : State) (x : Controller) : State := { s with ctrl := x }

/-- The state with another `freeCount`. -/
def State.setFreeCount (s : State) (x : Nat) : State := { s with freeCount := x }

/-- The state with another `pending`. -/
def State.setPending (s : State) (x : List Instr) : State := { s with pending := x }

/-! The configuration and the station. -/

/-- The station's own number (R183). -/
def State.station (s : State) : Nat := s.ctrl.station

/-- The image of the configuration in force, if one is in force. -/
def State.config? (s : State) : Option ConfigImage := s.ctrl.inForce.map (fun f => f.image)

/-- The image of the configuration in force; with none in force an image in which nothing is configured, so that no
channel has a role (R6), no component is configured and the partner set is empty (R159, R170). -/
def State.config (s : State) : ConfigImage := s.config?.getD {}

/-- The stack group in force; 0 when no configuration is in force (R116: no own report then). -/
def State.stackGroup (s : State) : Nat := s.config.stackGroup

/-- The timed flag (06). -/
def State.timed (s : State) : Bool := s.clock.time.isSome

/-- The deadline timer's value: the time of taking of what is taken now (R84, R96). -/
def State.now (s : State) : Nat := s.link.deadlineTimer

/-- An element of a list changed; a place beyond the list's end changes nothing. -/
def updateAt {α : Type} (l : List α) (n : Nat) (f : α → α) : List α := l.modify n f

/-! Output lines and the states that drive them. -/

/-- The output lines re-decided (R77, R78). -/
def driveOutputs (s : State) : State :=
  s.setPlant { s.plant with permit := decidePermit s.plant.machine s.ctrl.state,
                            faultLine := decideFault s.plant.recordLoss s.ctrl.state }

/-- The abnormal machine in another state; PERMIT follows at the same event (R77). -/
def setMachine (m : AbnormalMachine) (s : State) : State :=
  driveOutputs (s.setPlant { s.plant with machine := m })

/-- The station in another state; PERMIT and FAULT follow at the same event (R184). -/
def enterState (st : StationState) (s : State) : State :=
  driveOutputs (s.setCtrl { s.ctrl with state := st })

/-- The record-loss mark set or cleared; FAULT follows (R78). -/
def setRecordLoss (b : Bool) (s : State) : State :=
  driveOutputs (s.setPlant { s.plant with recordLoss := b })

/-! The flash die (R127): slot addresses, reads, programs and erases. -/

/-- The address of a slot of a block. -/
def slotAddress (block slot : Nat) : Nat := block * 1024 + slot

/-- What a slot holds; none is erased, every byte 0xFF (R196). -/
def dieRead (die : List (Nat × SlotContent)) (a : Nat) : Option SlotContent :=
  match die with
  | [] => none
  | (b, c) :: rest => if b = a then some c else dieRead rest a

/-- The die with a slot's contents written; the list stays in rising order of address. -/
def dieWrite (die : List (Nat × SlotContent)) (a : Nat) (c : SlotContent) : List (Nat × SlotContent) :=
  match die with
  | [] => [(a, c)]
  | (b, d) :: rest =>
    if a < b then (a, c) :: (b, d) :: rest
    else if a = b then (a, c) :: rest
    else (b, d) :: dieWrite rest a c

/-- The die after an erase of a block that passed: every slot of it erased (R127). -/
def dieErase (die : List (Nat × SlotContent)) (block : Nat) : List (Nat × SlotContent) :=
  die.filter (fun e => e.1 / 1024 != block)

/-- The die with the slots from `i` down to 0 of a block as a failed erase left them: a free value says of each slot whether
it is erased, VOID or as before (R139; log entry 9). -/
def dieScramble (free : Nat) (block : Nat) : Nat → List (Nat × SlotContent) → List (Nat × SlotContent)
  | 0, die => die
  | i + 1, die =>
    let a := slotAddress block i
    let die' :=
      match (Config.failedEraseSlot free i).val with
      | 0 => die.filter (fun e => e.1 != a)
      | 1 => dieWrite die a .void
      | _ => die
    dieScramble free block i die'

/-- The die after an erase of a block that failed. -/
def dieFailedErase (free : Nat) (die : List (Nat × SlotContent)) (block : Nat) : List (Nat × SlotContent) :=
  dieScramble free block 1024 die

/-- The canonical form of the die: addresses strictly rising. No entry stands for an erased slot, since an entry's
contents are an image or VOID. -/
def dieSorted : List (Nat × SlotContent) → Bool
  | [] => true
  | [_] => true
  | a :: b :: rest => decide (a.1 < b.1) && dieSorted (b :: rest)

/-- The memory's canonical form. -/
def State.dieWf (s : State) : Bool := dieSorted s.store.die

/-- The programmed slots of a block in slot order. -/
def blockSlots (die : List (Nat × SlotContent)) (block : Nat) : List (Nat × SlotContent) :=
  die.filterMap (fun e => if e.1 / 1024 = block then some (e.1 % 1024, e.2) else none)

/-- The state with a slot written. -/
def writeSlot (block slot : Nat) (c : SlotContent) (s : State) : State :=
  s.setStore { s.store with die := dieWrite s.store.die (slotAddress block slot) c }

/-- The state after an erase of a block that passed. -/
def eraseSlots (block : Nat) (s : State) : State :=
  s.setStore { s.store with die := dieErase s.store.die block }

/-- The state after an erase of a block that failed; the free value is used up. -/
def scrambleSlots (block : Nat) (s : State) : State :=
  (s.setStore { s.store with die := dieFailedErase s.freeCount s.store.die block }).setFreeCount (s.freeCount + 1)

/-- The entry of a block in the block table. -/
def State.block (s : State) (b : Nat) : BlockEntry := s.store.blocks.getD b { state := .retired }

/-- The block table with one entry changed. -/
def setBlock (b : Nat) (f : BlockEntry → BlockEntry) (s : State) : State :=
  s.setStore { s.store with blocks := updateAt s.store.blocks b f }

/-- The programmer's operation in progress. -/
def setProgrammer (op : Option ProgOp) (s : State) : State :=
  s.setStore { s.store with programmer := op }

/-- The next value of the sequence counter (R128); after the last of 32 bits a free value (log entry 13). -/
def nextSequence (n : Nat) : Nat := if n < 4294967295 then n + 1 else Config.sequenceAfterLast.toNat

/-! The own record queue (R132) and notices (R76). -/

/-- A record offered to the own record queue (R132). It joins at the back, or a full queue refuses it: the own-loss count
rises and the record-loss mark is set (R78). With the store FAILED the offer is not taken and counted nowhere. -/
def offerOwn (r : SlotImage) (s : State) : State :=
  if s.store.failed then s
  else if s.store.ownQueue.length < 8 then
    s.setStore { s.store with ownQueue := s.store.ownQueue ++ [r] }
  else
    setRecordLoss true (s.setStore { s.store with ownLosses := count16 s.store.ownLosses 1 })

/-- A notice with the station's number and station time, or no time while untimed (R76). -/
def noticeSlot (s : State) (code : NoticeCode) (params : List Byte) : SlotImage :=
  makeSlot .notice (noticeData s.station s.clock.time code params)

/-- A notice offered to the own record queue at the event that produces it (R76). -/
def offerNotice (code : NoticeCode) (params : List Byte) (s : State) : State :=
  offerOwn (noticeSlot s code params) s

/-! The transmit queue (R92 to R96). -/

/-- The deadline of an entry: microseconds after its offering (R96). -/
def deadlineAfter : FrameKind → Nat
  | .mark => 10000000
  | .load => 30000000
  | .result => 600000000
  | _ => 2000000

/-- Two entries of which the newer replaces the waiting older one: both MARK, both LOAD, or replies to one terminal
(R93, R94). -/
def TxEntry.replaces (new old : TxEntry) : Bool :=
  match new.kind.frameClass with
  | .broadcast => new.kind != .result && old.kind == new.kind
  | .reply => old.kind.frameClass == .reply && old.terminal == new.terminal
  | .request => false

/-- The queue without its youngest waiting RESULT (R95); none when it holds no waiting RESULT. -/
def dropYoungestResult (q : List TxEntry) : Option (List TxEntry) :=
  match q with
  | [] => none
  | e :: rest =>
    match dropYoungestResult rest with
    | some rest' => some (e :: rest')
    | none => if e.kind == .result && !e.sending then some rest else none

/-- A MARK, LOAD or reply joins the queue: it replaces a waiting entry (R93, R94), else displaces the youngest waiting
RESULT of a full queue (R95), else joins. R95 shows that a full queue always holds a waiting RESULT then. -/
def joinQueue (e : TxEntry) (s : State) : State :=
  let kept := s.link.queue.filter (fun o => o.sending || !e.replaces o)
  if kept.length < s.link.queue.length then s.setLink { s.link with queue := kept ++ [e] }
  else if s.link.queue.length < 8 then s.setLink { s.link with queue := s.link.queue ++ [e] }
  else
    match dropYoungestResult s.link.queue with
    | some q => s.setLink { s.link with queue := q ++ [e], resultMisses := count16 s.link.resultMisses 1 }
    | none => s

/-- A MARK or LOAD offered by its block (R102, R117); target 0. -/
def offerBroadcast (k : FrameKind) (payload : List Byte) (s : State) : State :=
  joinQueue { kind := k, target := 0, payload := payload, terminal := none, offered := s.now,
              deadline := s.now + deadlineAfter k } s

/-- A RESULT offered: refused by a full queue, else it joins at the back (R95). -/
def offerResult (payload : List Byte) (s : State) : State :=
  if s.link.queue.length < 8 then
    s.setLink { s.link with queue := s.link.queue ++
      [{ kind := .result, target := 0, payload := payload, terminal := none, offered := s.now,
         deadline := s.now + deadlineAfter .result }] }
  else s.setLink { s.link with resultMisses := count16 s.link.resultMisses 1 }

/-- A reply offered with the time of taking of its request (R168): past its deadline it is dropped at the offer and
counted as expired (R94). At the deadline itself it is queued (log entry 44). -/
def offerReply (k : FrameKind) (terminal taken : Nat) (payload : List Byte) (s : State) : State :=
  if s.now ≤ taken + deadlineAfter k then
    joinQueue { kind := k, target := terminal, payload := payload, terminal := some terminal, offered := s.now,
                deadline := taken + deadlineAfter k } s
  else s.setLink { s.link with expiredFrames := count16 s.link.expiredFrames 1 }

/-- An ANSWER: the request's kind and the answer code (R168, R197). -/
def offerAnswer (request : FrameKind) (terminal taken : Nat) (code : AnswerCode) (s : State) : State :=
  offerReply .answer terminal taken (be 1 request.code ++ be 1 code.code) s

/-! The passing of real time (log entries 1 and 2). -/

/-- The microseconds of the running minute after `dt`: the minute does not run beyond its length, and in the last minute of
the clock's range the clock holds at the last second (R99). At its length, before its close, the minute's second equals its
length (log entry 52). -/
def StationTime.advance (t : StationTime) (minuteLength dt : Nat) : StationTime :=
  if t.atRangeEnd then { t with micros := min (t.micros + dt) (max t.micros (minuteLength * 1000000 - 1)) }
  else { t with micros := min (t.micros + dt) (max t.micros (minuteLength * 1000000)) }

/-- A load share entry `dt` microseconds older (R120): one whose age reaches 3,600 s within that time ceases to be present. At
3,600 s itself it awaits its LOAD_ENTRY_AGE_OUT, which is that moment's event. -/
def ShareEntry.ageBy (e : ShareEntry) (dt : Nat) : Option ShareEntry :=
  if e.age + dt ≤ 3600000000 then some { e with age := e.age + dt } else none

/-- The load share unit after `dt` microseconds (R120). -/
def ShareUnit.advance (u : ShareUnit) (dt : Nat) : ShareUnit :=
  { u with entries := u.entries.map (fun e => e.bind (fun x => x.ageBy dt)) }

/-- A waiting entry whose deadline the deadline timer has passed (R96). At the deadline itself it awaits its ENTRY_EXPIRED,
which is that moment's event. -/
def TxEntry.overdue (e : TxEntry) (now : Nat) : Bool := !e.sending && e.deadline < now

/-- R96: the waiting entries whose deadlines have passed expire: each is removed and counted, a RESULT also as a result miss. -/
def Link.expireOverdue (l : Link) : Link :=
  let gone := l.queue.filter (fun e => e.overdue l.deadlineTimer)
  { l with queue := l.queue.filter (fun e => !e.overdue l.deadlineTimer),
           expiredFrames := count16 l.expiredFrames gone.length,
           resultMisses := count16 l.resultMisses (gone.filter (fun e => e.kind == .result)).length }

/-- The link controller after `dt` microseconds: the deadline timer runs (R96); an attempt's sending goes on, one bit in 4
microseconds, and the station's receiver has assembled the characters sent so far (R81, R83). -/
def Link.advance (l : Link) (station dt : Nat) : Link :=
  let l' := { l with deadlineTimer := l.deadlineTimer + dt }
  match l.attempt, l.queue.find? (fun e => e.sending) with
  | some bits, some e =>
    let sent := min (bits + dt / 4) (max bits (10 * (6 + e.payload.length)))
    { l' with attempt := some sent,
              characters := (frameCharacters e.kind station e.target e.payload).take (sent / 10) }
  | _, _ => l'

/-- `dt` microseconds pass: the deadline timer (R96), the running minute (R99), the elapsed time since the last interval
close (R100), the ages of the load share table (R120) and the untimed minute (R67) advance, and an attempt's sending goes
on. The waiting entries whose deadlines fall within that time expire (R96), and the load share entries that reach 3,600 s
within it cease to be present (R120). What falls on its very end is left to the command of that event, and so are the
closes of a minute that has run its length (log entry 2). -/
def elapse (dt : Nat) (s : State) : State :=
  let link := (s.link.advance s.station dt).expireOverdue
  let clock := { s.clock with
    time := s.clock.time.map (fun t => t.advance s.clock.minuteLength dt),
    lastClosed := s.clock.lastClosed.map (fun l => { l with elapsed := l.elapsed + dt }) }
  let plant := { s.plant with untimed := s.plant.untimed.map (fun u => min (u + dt) (max u 60000000)) }
  (((s.setLink link).setClock clock).setShare (s.share.advance dt)).setPlant plant

/-- The microseconds the running minute still has to run. -/
def Clock.remaining (c : Clock) : Nat :=
  match c.time with
  | some t => c.minuteLength * 1000000 - t.micros
  | none => 0

end Sys2Proof.Machine
end

