-- ==== Sys2Proof/Machine/Intake.lean ====
section
/-! DEFINITION. The intake unit (01): assembly and checking of reading frames, channel entries, the settle slot, the
minute accumulator and the minute close. -/

namespace Sys2Proof.Machine

/-- Whether a status is of the measuring class (R4). -/
def AnalyserStatus.isMeasuring : AnalyserStatus → Bool
  | .measuring | .overrange => true
  | .calibrating | .maintenance | .fault => false

/-- The place of the component read from a channel, if any (R6). -/
def componentOfChannel (m : ConfigImage) (ch : Nat) : Option Nat :=
  m.components.findIdx? (fun c => match c with
    | some cc => cc.channel == ch
    | none => false)

/-- The role the configuration gives a channel (R6). -/
def roleOf (m : ConfigImage) (ch : Nat) : Option Role :=
  match componentOfChannel m ch with
  | some n => some (.component (n + 1))
  | none =>
    if m.o2 = some ch then some .o2
    else if m.h2o = some ch then some .h2o
    else if m.temp = some ch then some .temp
    else if m.press = some ch then some .press
    else if m.flow = some ch then some .flow
    else if m.load = some ch then some .load
    else none

/-- The stand-in value of an OVERRANGE reading (R6). -/
def standIn (m : ConfigImage) (role : Option Role) : Int :=
  match role with
  | some (.component n) =>
    match (m.components.getD (n - 1) none) with
    | some c => c.ceiling
    | none => 8388607
  | _ => 8388607

/-- The value as taken (R5, R6). -/
def takenValue (m : ConfigImage) (role : Option Role) (status : AnalyserStatus) (value : Int) : Option Int :=
  match status with
  | .measuring => if role = some .flow || role = some .load then some (max value 0) else some value
  | .overrange => some (standIn m role)
  | .calibrating | .maintenance | .fault => none

/-- A captured reading moves the latest to the previous (R5). -/
def ChannelEntry.capture (e : ChannelEntry) (r : Reading) : ChannelEntry :=
  { e with latest := some r, previous := e.latest }

/-- The captured pair completes a return: the latest is of the measuring class and the previous is present and of the
non-measuring class (R8). -/
def ChannelEntry.returned (e : ChannelEntry) : Bool :=
  match e.latest, e.previous with
  | some l, some p => l.status.isMeasuring && !p.status.isMeasuring
  | _, _ => false

/-- A settle slot is running (R10). -/
def ChannelEntry.settling (e : ChannelEntry) : Bool := 0 < e.settle || e.acc.returnMark

/-- The settle slot after a capture: a return starts it (R8), a reading of the non-measuring class in it ends it and keeps
the return mark (R10). -/
def ChannelEntry.examine (e : ChannelEntry) (settleMinutes : Nat) (status : AnalyserStatus) : ChannelEntry :=
  if e.returned then { e with settle := settleMinutes, acc := { e.acc with returnMark := true } }
  else if !status.isMeasuring && e.settling then { e with settle := 0 }
  else e

/-- A value added to the sum: an exact sum beyond ±2,147,483,647 saturates and overflows (R12). -/
def MinuteAcc.add (a : MinuteAcc) (value : Int) : MinuteAcc :=
  let (sum, ovf) := saturate32 (a.sum + value)
  { a with sum := sum, count := a.count + 1, overflow := a.overflow || ovf }

/-- A reading admitted to accumulation (R11, R13, R14). -/
def MinuteAcc.accumulate (a : MinuteAcc) (r : Reading) : MinuteAcc :=
  match r.status with
  | .calibrating | .maintenance => { a with maintSeen := true }
  | .fault => { a with faultSeen := true }
  | .measuring =>
    if 1023 ≤ a.count then { a with crowded := true } else a.add (r.value.getD 0)
  | .overrange =>
    let a := { a with clamped := true }
    if 1023 ≤ a.count then { a with crowded := true } else a.add (r.value.getD 0)

/-- The station states in which a reading is accumulated (R7). -/
def accumulating (st : StationState) : Bool := st == .setup || st == .untimed || st == .recording

/-- The configured settle minutes; with no configuration in force a free value (R8; log entry 8). -/
def settleMinutes (s : State) : Nat :=
  match s.config? with
  | some m => m.settleMinutes
  | none => Config.settleMinutesUnconfigured.val

/-- An accepted reading taken by its channel entry (R5, R7). -/
def takeReading (ch : Nat) (status : AnalyserStatus) (value : Int) (s : State) : State :=
  let role := roleOf s.config ch
  let r : Reading := { status := status, value := takenValue s.config role status value }
  let take (e : ChannelEntry) : ChannelEntry :=
    let e := (e.capture r).examine (settleMinutes s) status
    if accumulating s.ctrl.state && role.isSome then { e with acc := e.acc.accumulate r } else e
  s.setIntake { s.intake with channels := updateAt s.intake.channels ch take }

/-- One analyser frame error counted (R2, R3, R19). -/
def countFrameError (s : State) : State :=
  s.setIntake { s.intake with frameErrors := count16 s.intake.frameErrors 1 }

/-- The bytes of the frame in assembly replaced. -/
def setPartial (bytes : List Byte) (s : State) : State := s.setIntake { s.intake with partialFrame := bytes }

/-- The sync byte (01, The analyser line). -/
abbrev syncByte : Byte := 0xA5

/-- A completed frame checked (R3). Its check fails: hunting resumes at its second byte, and what stands from the next
sync byte on is the frame in assembly. A code is out of range: hunting resumes after it. Otherwise it is a reading. -/
def checkReadingFrame (frame : List Byte) (s : State) : State :=
  if crc16 (frame.take 6) == field frame 6 2 then
    match analyserStatusOf (field frame 2 1) with
    | some status =>
      if field frame 1 1 ≤ 15 then takeReading (field frame 1 1) status (fieldSigned frame 3 3) (setPartial [] s)
      else countFrameError (setPartial [] s)
    | none => countFrameError (setPartial [] s)
  else countFrameError (setPartial ((frame.drop 1).dropWhile (fun b => b != syncByte)) s)

/-- One byte received on the analyser line (R2). -/
def receiveAnalyserByte (s : State) (b : Byte) : State :=
  match s.intake.partialFrame with
  | [] => if b = syncByte then setPartial [b] s else s
  | p :: ps =>
    let frame := p :: ps ++ [b]
    if frame.length < 8 then setPartial frame s else checkReadingFrame frame s

/-! The minute close (R9, R15 to R17). -/

/-- The minute is nullified (R9). -/
def ChannelEntry.nullified (e : ChannelEntry) : Bool := e.acc.returnMark || 0 < e.settle

/-- The minute mean: the sum divided by the count, rounded once; absent with no readings (R15). -/
def MinuteAcc.mean (a : MinuteAcc) : Option Int := if a.count = 0 then none else some (roundDiv a.sum a.count)

/-- The minute value of a channel (R17). -/
def ChannelEntry.minuteValue (e : ChannelEntry) (minReadings : Nat) : MinuteValue :=
  { mean := e.acc.mean, count := e.acc.count, state := minuteState e.acc e.nullified minReadings,
    clamped := e.acc.clamped, overflow := e.acc.overflow, crowded := e.acc.crowded }

/-- A channel entry after a minute close: the settle counter of R9, an empty accumulator (R17). -/
def ChannelEntry.closed (e : ChannelEntry) : ChannelEntry :=
  { e with settle := if e.acc.returnMark then e.settle else e.settle - 1, acc := {} }

/-- The minute value of a channel code handed over at a close; none when the channel has no entry. -/
def channelValue (i : Intake) (m : ConfigImage) (ch : Nat) : Option MinuteValue :=
  (i.channels[ch]?).map (fun e => e.minuteValue m.minReadings)

/-- The number of channels with a role whose closing minute carries a mark (R19). -/
def roleChannelsWith (i : Intake) (m : ConfigImage) (p : MinuteAcc → Bool) : Nat :=
  (i.channels.zipIdx.filter (fun e => (roleOf m e.2).isSome && p e.1.acc)).length

/-- The intake unit after a minute close: counts updated from the closing accumulators, then accumulators cleared
(R17, R19). -/
def intakeClose (i : Intake) (m : ConfigImage) : Intake :=
  { i with
    crowdedMinutes := count16 i.crowdedMinutes (roleChannelsWith i m (fun a => a.crowded)),
    overflowMinutes := count16 i.overflowMinutes (roleChannelsWith i m (fun a => a.overflow)),
    faultMinutes := count16 i.faultMinutes (roleChannelsWith i m (fun a => a.faultSeen)),
    channels := i.channels.map (fun e => e.closed) }

/-- The accumulation restart at a setting of the clock: everything of the accumulator but the return mark (R18). -/
def intakeRestart (i : Intake) : Intake :=
  { i with channels := i.channels.map (fun e => { e with acc := { returnMark := e.acc.returnMark } }) }

end Sys2Proof.Machine
end

