-- ==== Sys2Proof/Machine/LoadShare.lean ====
section
/-! DEFINITION. The load share unit (07): the own report, the load share table, and the share of a minute close. -/

namespace Sys2Proof.Machine

/-- R116: the own report for the closing minute, from the fire-seen flag and the LOAD channel's minute value. -/
def ownReport (minute : MinuteId) (fireSeen : Bool) (load : Option MinuteValue) : LoadReport :=
  if !fireSeen then { minute := minute, load := 0, status := .stopped }
  else
    match load with
    | some { state := .valid, mean := some v, .. } => { minute := minute, load := v.toNat, status := .operating }
    | _ => { minute := minute, load := 0, status := .invalid }

/-- The entry of a station number. -/
def ShareUnit.entry (u : ShareUnit) (station : Nat) : Option ShareEntry := u.entries.getD (station - 1) none

/-- The table with the entry of a station number replaced. -/
def ShareUnit.setEntry (u : ShareUnit) (station : Nat) (e : Option ShareEntry) : ShareUnit :=
  { u with entries := u.entries.set (station - 1) e }

/-- R117: the own report written into the own entry. -/
def writeOwnEntry (group : Nat) (r : LoadReport) (old : Option ShareEntry) : ShareEntry :=
  { group := group, latest := r, previous := old.map (fun e => e.latest), age := 0 }

/-- R118: a peer's report that passed its checks, against the sender's entry. -/
def takeReport (group : Nat) (r : LoadReport) (old : Option ShareEntry) : Option ShareEntry :=
  match old with
  | none => some { group := group, latest := r, previous := none, age := 0 }
  | some e =>
    if minuteNumber e.latest.minute < minuteNumber r.minute then
      some { group := group, latest := r, previous := some e.latest, age := 0 }
    else some e

/-- R118: a LOAD taken from a peer. -/
def takeLoad (sender : Nat) (f : LoadFields) (s : State) : State :=
  match loadReport f with
  | none => s
  | some r =>
    if s.config?.all (fun m => m.stackGroup == f.group) then
      s.setShare (s.share.setEntry sender (takeReport f.group r (s.share.entry sender)))
    else s

/-- R119: entries of other groups than the one now in force are made not present; with stack group 0 every one. -/
def pruneEntries (group : Nat) (u : ShareUnit) : ShareUnit :=
  { u with entries := u.entries.map (fun e => e.bind (fun x => if group != 0 && x.group == group then some x else none)) }

/-- How many minutes a report lies before minute `m`; 0 for a report not before it. -/
def reportAge (m : MinuteId) (r : LoadReport) : Nat := minuteNumber m - minuteNumber r.minute

/-- R122: the report of an entry examined at the close of `m`: its newest one not after m − 1. -/
def examinedReport (m : MinuteId) (e : ShareEntry) : Option LoadReport :=
  if 1 ≤ reportAge m e.latest then some e.latest
  else e.previous.filter (fun r => 1 ≤ reportAge m r)

/-- R122: what a present peer adds to L_total, and whether it sets SHARE_SUBSTITUTED. -/
def peerContribution (m : MinuteId) (e : ShareEntry) : Nat × Bool :=
  match examinedReport m e with
  | none => (0, true)
  | some r =>
    let load := match r.status with
      | .operating => r.load
      | .stopped => 0
      | .invalid => 0
    if reportAge m r = 1 then (load, r.status == .invalid)
    else if reportAge m r ≤ 6 then (load, true)
    else (0, true)

/-- R121: the own report for m − 1, as latest or as previous; the latest where both are for m − 1 (log entry 46). -/
def ownReportFor (m : MinuteId) (e : ShareEntry) : Option LoadReport :=
  if reportAge m e.latest = 1 then some e.latest
  else e.previous.filter (fun r => reportAge m r == 1)

/-- The contributions of the present peers, the own entry left out. -/
def peerContributions (u : ShareUnit) (station : Nat) (m : MinuteId) : List (Nat × Bool) :=
  (u.entries.zipIdx.filter (fun e => e.2 + 1 != station)).filterMap (fun e => e.1.map (peerContribution m))

/-- R121 to R123: the share of the closing minute m; none is invalid. -/
def decideShare (u : ShareUnit) (station : Nat) (m : MinuteId) : Option Share :=
  match (u.entry station).bind (ownReportFor m) with
  | none => none
  | some r =>
    match r.status with
    | .invalid => none
    | _ =>
      let own := if r.status = .operating then r.load else 0
      let peers := peerContributions u station m
      let total := own + (peers.map (fun p => p.1)).sum
      if total = 0 then none
      else some { own := own, total := total, substituted := peers.any (fun p => p.2) }

/-- R115: the fire-seen flag of a clock minute that begins. -/
def beginFireSeen (s : State) : State := s.setShare { s.share with fireSeen := s.plant.fire }

/-- The payload of a LOAD frame (R117, R197). -/
def loadPayload (group : Nat) (r : LoadReport) : List Byte :=
  be 1 group ++ minuteIdBytes r.minute ++ be 3 r.load ++ be 1 r.status.code

/-- R117: the own report written into the table and, in RECORDING, offered as a LOAD. -/
def shareMinuteClose (r : LoadReport) (s : State) : State :=
  if s.stackGroup = 0 then s
  else
    let s := s.setShare (s.share.setEntry s.station (some (writeOwnEntry s.stackGroup r (s.share.entry s.station))))
    if s.ctrl.state = .recording then offerBroadcast .load (loadPayload s.stackGroup r) s else s

end Sys2Proof.Machine
end

