-- ==== Sys2Proof/Machine/Normalisation.lean ====
section
/-! DEFINITION. The normalisation unit (02): peripheral hold, clamps, the three steps, the flows and the minute mass. -/

namespace Sys2Proof.Machine

/-- R24: a peripheral's availability at a close and its held value afterwards. `value` is the channel's minute value;
`configured` says whether the role names a channel. -/
def holdPeripheral (configured : Bool) (value : Option MinuteValue) (holdMinutes : Nat) (h : HeldValue) :
    Option Peripheral × HeldValue :=
  if !configured then (none, {})
  else
    match value with
    | some { mean := some m, state := .valid, clamped := cl, .. } =>
      (some { value := m, clamped := cl, held := false }, { value := some m, clamped := cl, age := 0 })
    | _ =>
      match h.value with
      | some v =>
        if h.age < holdMinutes then
          (some { value := v, clamped := h.clamped, held := true }, { h with age := h.age + 1 })
        else (none, h)
      | none => (none, h)

/-- The peripherals of one minute, as taken into the arithmetic: clamped to R23's ranges. `o2AtCap` says that the O2
value was taken as the cap. -/
structure Peripherals where
  o2 : Option Peripheral
  o2AtCap : Bool
  h2o : Option Peripheral
  temp : Option Peripheral
  press : Option Peripheral
  flow : Option Peripheral
  deriving DecidableEq, Repr

/-- A peripheral with its value clamped (R23). -/
def Peripheral.clampedTo (lo hi : Int) (p : Peripheral) : Peripheral := { p with value := clampTo lo hi p.value }

/-- R22 steps 1 and 2: the peripherals of the closing minute, clamped, and the held values afterwards. -/
def takePeripherals (n : Norm) (i : Intake) (m : ConfigImage) : Peripherals × Norm :=
  let decide (role : Option Nat) (h : HeldValue) := holdPeripheral role.isSome (role.bind (channelValue i m)) m.holdMinutes h
  let (o2, h1) := decide m.o2 n.o2
  let (h2o, h2) := decide m.h2o n.h2o
  let (temp, h3) := decide m.temp n.temp
  let (press, h4) := decide m.press n.press
  let (flow, h5) := decide m.flow n.flow
  ({ o2 := o2.map (fun p => p.clampedTo 0 m.o2Cap)
     o2AtCap := o2.any (fun p => (m.o2Cap : Int) ≤ p.value)
     h2o := h2o.map (fun p => p.clampedTo 0 4000)
     temp := temp.map (fun p => p.clampedTo (-400) 6000)
     press := press.map (fun p => p.clampedTo 8000 12000)
     flow := flow },
   { o2 := h1, h2o := h2, temp := h3, press := h4, flow := h5 })

/-- R29: step 1, to standard conditions. -/
def step1 (c t p : Int) : Int × Bool := saturate32 (roundDiv (c * (2 * t + 5463) * 20265) (5463 * (2 * p)).toNat)

/-- R30: step 2, to the dry basis. -/
def step2 (c1 h : Int) : Int × Bool := saturate32 (roundDiv (c1 * 10000) (10000 - h).toNat)

/-- R31: step 3, to the O2 reference. -/
def step3 (c2 o r : Int) : Int × Bool := saturate32 (roundDiv (c2 * (2100 - r)) (2100 - o).toNat)

/-- R31: step 3 applies always, or in ABOVE_ONLY mode when the measured O2 is above the reference. -/
def step3Applies (aboveOnly : Bool) (o r : Int) : Bool := !aboveOnly || r < o

/-- The peripherals a component depends on (R26); none for one that is unavailable. -/
def componentPeripherals (c : ComponentConfig) (p : Peripherals) : List (Option Peripheral) :=
  [p.o2] ++ (if c.wet then [p.h2o] else []) ++ (if c.actual then [p.temp, p.press] else [])

/-- R28 to R31: c2 and c3 of a component from its mean, and whether a step saturated. The steps are taken in order, each on
the output of the one before; a step the configuration makes unnecessary is skipped. -/
def normalise (c : ComponentConfig) (m : ConfigImage) (p : Peripherals) (mean : Int) : Int × Int × Bool :=
  let value (x : Option Peripheral) : Int := (x.map (fun q => q.value)).getD 0
  let (c1, s1) := if c.actual then step1 mean (value p.temp) (value p.press) else (mean, false)
  let (c2, s2) := if c.wet then step2 c1 (value p.h2o) else (c1, false)
  let (c3, s3) :=
    if step3Applies c.aboveOnly (value p.o2) m.o2Reference then step3 c2 (value p.o2) m.o2Reference else (c2, false)
  (c2, c3, s1 || s2 || s3)

/-- R33: the normalised flow, with whether it rests on held values. A FLOW mean below 0, which a channel can close its minute
with when it took negative values under an earlier role (R21), is used as it stands (R23), and the flow is negative then
(log entry 40). -/
def normalisedFlow (m : ConfigImage) (p : Peripherals) : Option (Int × Bool) :=
  match m.flowBasis with
  | .stdDry => p.flow.map (fun q => (q.value, q.held))
  | .actualWet =>
    match p.flow, p.temp, p.press, p.h2o with
    | some q, some t, some pr, some h =>
      some (roundDiv (q.value * 5463 * (2 * pr.value) * (10000 - h.value)) ((2 * t.value + 5463) * 20265 * 10000).toNat,
        q.held || t.held || pr.held || h.held)
    | _, _, _, _ => none

/-- R34: the apportioned flow. With a stack group of its own the share is whole; otherwise a valid share is needed. -/
def apportionedFlow (m : ConfigImage) (qn : Option (Int × Bool)) (share : Option Share) : Option ShareFlow :=
  match qn with
  | none => none
  | some (q, held) =>
    if m.stackGroup = 0 then some { value := q, shareSubstituted := false, restsOnHeld := held }
    else
      match share with
      | some sh => some { value := roundDiv (q * sh.own) sh.total, shareSubstituted := sh.substituted, restsOnHeld := held }
      | none => none

/-- R35: the minute mass in mg, from the dry standard concentration before the oxygen reference; 0 for a negative flow (log
entry 40). -/
def minuteMass (c2 qs : Int) : Nat := (roundDiv (max c2 0 * qs) 6000).toNat

/-- R27, R32, R35: the component minute. -/
def componentMinute (c : ComponentConfig) (m : ConfigImage) (p : Peripherals) (qs : Option ShareFlow)
    (v : MinuteValue) : ComponentMinute :=
  let deps := componentPeripherals c p
  let complete := deps.all (fun d => d.isSome)
  let flags : ComponentFlags :=
    { substituted := deps.any (fun d => d.any (fun q => q.held)),
      clamped := v.clamped || deps.any (fun d => d.any (fun q => q.clamped)) || p.o2AtCap,
      overflow := v.overflow }
  match v.state, complete, v.mean with
  | .valid, true, some mean =>
    let (c2, c3, sat) := normalise c m p mean
    let state := componentMinuteState .valid true sat
    let flags := { flags with overflow := flags.overflow || sat }
    match state, qs with
    | .valid, some q =>
      { state := state, c3 := some c3, mean := v.mean, count := v.count, mass := some (minuteMass c2 q.value),
        flags := { flags with substituted := flags.substituted || q.restsOnHeld,
                              shareSubstituted := q.shareSubstituted } }
    | _, _ => { state := state, c3 := some c3, mean := v.mean, count := v.count, mass := none, flags := flags }
  | _, _, _ =>
    { state := componentMinuteState v.state false false, c3 := none, mean := v.mean, count := v.count, mass := none,
      flags := flags }

/-- R36: the minute result of a closing minute, from the intake unit's accumulators as they stand at the close. -/
def minuteResult (id : MinuteId) (i : Intake) (m : ConfigImage) (p : Peripherals) (share : Option Share) : MinuteResult :=
  let qs := apportionedFlow m (normalisedFlow m p) share
  { minute := id,
    components := m.components.map (fun c => c.bind (fun cc =>
      (channelValue i m cc.channel).map (fun v => componentMinute cc m p qs v))),
    o2 := p.o2.map (fun q => { value := q.value, held := q.held }), qs := qs, flowConfigured := m.flow.isSome }

/-- R25: at a successful START the held value of a role whose channel code differs becomes absent with hold age 0. -/
def reholdAtStart (old new : ConfigImage) (n : Norm) : Norm :=
  let keep (a b : Option Nat) (h : HeldValue) : HeldValue := if a = b then h else {}
  { o2 := keep old.o2 new.o2 n.o2, h2o := keep old.h2o new.h2o n.h2o, temp := keep old.temp new.temp n.temp,
    press := keep old.press new.press n.press, flow := keep old.flow new.flow n.flow }

end Sys2Proof.Machine
end

