-- ==== Sys2Proof/Machine/PlantSignals.lean ====
section
/-! DEFINITION. The plant signal unit (04): the input levels, the minute flags, the abnormal-operation machine, its
notices, and the minute closes it counts. -/

namespace Sys2Proof.Machine

/-- The year summary changed when a notice produced now lies in the summary year (R59): the clock must be timed and in that
year. -/
def reportToSummary (f : YearSummary → YearSummary) (s : State) : State :=
  match s.clock.time, s.period.summaryYear with
  | some t, some y => if t.year = y then s.setPeriod { s.period with summary := f s.period.summary } else s
  | _, _ => s

/-- The limit and budget used at a check: those of the configuration in force, or 240 and 3,600 with none (R71). -/
def abnormalLimits (s : State) : Nat × Nat :=
  match s.config? with
  | some m => (m.continuousLimit, m.yearBudget)
  | none => (240, 3600)

/-- R70 step 5: which limit has been reached, the continuous one first. -/
def reachedLimit (s : State) : Option CutoffCause :=
  let (limit, budget) := abnormalLimits s
  if limit ≤ s.plant.continuous then some .limit
  else if budget ≤ s.plant.yearCount then some .budget
  else none

/-- An ABN_END notice: its cause and minutes (R76). -/
def offerAbnEnd (cause : Cause) (minutes : Nat) (s : State) : State :=
  offerNotice .abnEnd (be 1 cause.code ++ be 2 minutes) s

/-- The machine enters CUTOFF: PERMIT falls, the CUTOFF notice is offered and reported to the period unit (R73). -/
def enterCutoff (cause : CutoffCause) (s : State) : State :=
  let s := setMachine (.cutoff cause) s
  let s := offerNotice .cutoff
    (be 1 cause.toCause.code ++ be 2 s.plant.continuous ++ be 2 s.plant.yearCount ++ be 1 (levelsByte s.plant)) s
  reportToSummary (fun y => { y with cutoffs := y.cutoffs + 1 }) s

/-- From ABNORMAL the ABN_END comes first, with the cause of the ending, and then the CUTOFF (R70, R71, R73). -/
def cutoffFromAbnormal (cause : CutoffCause) (ending : Cause) (s : State) : State :=
  enterCutoff cause (offerAbnEnd ending s.plant.continuous s)

/-- R70 step 5 and R71 step 3: the limits checked in ABNORMAL. -/
def checkLimits (s : State) : State :=
  match reachedLimit s with
  | some cause => cutoffFromAbnormal cause .cutoff s
  | none => s

/-- R70: an entry into ABNORMAL with the carried minutes. -/
def enterAbnormal (cause : Cause) (carried : Nat) (s : State) : State :=
  let s := s.setPlant { s.plant with continuous := carried, abnormalFlag := true }
  let s := setMachine .abnormal s
  let s := offerNotice .abnBegin (be 1 cause.code ++ be 2 carried) s
  let s := reportToSummary (fun y => { y with episodes := y.episodes + 1 }) s
  checkLimits s

/-- R69: the episode ends; the machine enters NORMAL and ABN_END is produced. -/
def endEpisode (cause : Cause) (s : State) : State :=
  offerAbnEnd cause s.plant.continuous (setMachine .normal s)

/-- The level of a line. -/
def Plant.level (p : Plant) : InputLine → Bool
  | .fire => p.fire
  | .feed => p.feed
  | .clean => p.clean
  | .trip => p.trip

/-- The held level of a line changed (R64). -/
def setLevel (line : InputLine) (active : Bool) (p : Plant) : Plant :=
  match line with
  | .fire => { p with fire := active }
  | .feed => { p with feed := active }
  | .clean => { p with clean := active }
  | .trip => { p with trip := active }

/-- The minute flags an edge sets by itself: a FEED assertion makes the minute operating; a CLEAN or FIRE assertion in
CUTOFF that leaves both active makes it abnormal (R65). -/
def edgeFlags (line : InputLine) (active : Bool) (p : Plant) : Plant :=
  if !active then p
  else
    match line with
    | .feed => { p with operating := true }
    | .fire | .clean => if p.machine.isCutoff && p.fire && p.clean then { p with abnormalFlag := true } else p
    | .trip => p

/-- What an edge, its level already held, does to the abnormal machine (R68, R69, R73, R74). -/
def edgeMachine (line : InputLine) (active : Bool) (s : State) : State :=
  match s.plant.machine, line, active with
  | .normal, .clean, true => if s.plant.fire then enterAbnormal .clean 0 s else s
  | .normal, .fire, true => if s.plant.clean then enterAbnormal .fire 0 s else s
  | .normal, .trip, true => enterCutoff .trip s
  | .abnormal, .clean, false => endEpisode .clean s
  | .abnormal, .fire, false => endEpisode .fire s
  | .abnormal, .trip, true => cutoffFromAbnormal .trip .trip s
  | _, _, _ => s

/-- An edge of a line taken (R64): the level changes and sets its flags in every state; a FIRE assertion sets the fire-seen
flag (R115); the machine acts on it outside SCAN and FAILED. -/
def takeEdge (line : InputLine) (active : Bool) (s : State) : State :=
  let s := s.setPlant (edgeFlags line active (setLevel line active s.plant))
  let s := if line = .fire && active then s.setShare { s.share with fireSeen := true } else s
  if s.ctrl.state = .scan || s.ctrl.state = .failed then s else edgeMachine line active s

/-- The flags of a minute that begins (R65). -/
def beginFlags (p : Plant) : Plant :=
  { p with operating := p.feed,
           abnormalFlag := p.machine == .abnormal || (p.machine.isCutoff && p.clean && p.fire) }

/-- The next minute's flags begin. -/
def beginMinuteFlags (s : State) : State := s.setPlant (beginFlags s.plant)

/-- R66 step 1: the minute flags copied into the closed-minute flags. -/
def copyClosedFlags (s : State) : State :=
  s.setPlant { s.plant with closedOperating := s.plant.operating, closedAbnormal := s.plant.abnormalFlag }

/-- R71: the closing minute counted into the abnormal machine. -/
def countMinute (s : State) : State :=
  let p := s.plant
  let p := if p.abnormalFlag then { p with yearCount := count16 p.yearCount 1 } else p
  if p.machine = .abnormal then checkLimits (s.setPlant { p with continuous := count16 p.continuous 1 })
  else s.setPlant p

/-- R72: the count year settled against the year of the clock's time: an absent count year takes it and keeps the count, a
different one takes it and the count is cleared. -/
def settleCountYear (year : Nat) (s : State) : State :=
  match s.plant.countYear with
  | none => s.setPlant { s.plant with countYear := some year }
  | some y => if y = year then s else s.setPlant { s.plant with countYear := some year, yearCount := 0 }

/-- R66 steps 2 to 4 at a minute close of the station clock; `year` is the year of the minute that begins. -/
def plantMinuteClose (year : Nat) (s : State) : State :=
  beginMinuteFlags (settleCountYear year (countMinute s))

/-- R67: the untimed minute timer is started and its first minute begins. -/
def startUntimedTimer (s : State) : State :=
  beginMinuteFlags (s.setPlant { s.plant with untimed := some 0 })

/-- R67: an expiry: the closing minute is counted, the timer starts a new 60 s, the next minute's flags begin. -/
def untimedExpiry (s : State) : State :=
  let s := countMinute s
  beginMinuteFlags (s.setPlant { s.plant with untimed := some 0 })

/-- R67: at a setting of the clock the timer, if it runs, is stopped; the untimed minute in progress is ended and counted
and the clock's first minute begins. Then the count year is settled (R72). -/
def stopUntimedTimer (year : Nat) (s : State) : State :=
  let s :=
    match s.plant.untimed with
    | some _ =>
      let s := countMinute s
      beginMinuteFlags (s.setPlant { s.plant with untimed := none })
    | none => s
  settleCountYear year s

/-- R75: a RELEASE taken, and its answer. In CUTOFF with FIRE, CLEAN and TRIP inactive the machine enters NORMAL, the
continuous count is cleared and the RELEASE notice carries what it was. -/
def takeRelease (terminal : Nat) (s : State) : State × AnswerCode :=
  match s.plant.machine with
  | .cutoff cause =>
    if s.plant.fire || s.plant.clean || s.plant.trip then (s, .condition)
    else
      let params := be 1 terminal ++ be 1 cause.toCause.code ++ be 2 s.plant.continuous ++ be 2 s.plant.yearCount
      (offerNotice .release params (setMachine .normal (s.setPlant { s.plant with continuous := 0 })), .done)
  | .normal | .abnormal => (s, .condition)

end Sys2Proof.Machine
end

