-- ==== Sys2Proof/Machine/Periods.lean ====
section
/-! DEFINITION. The period unit (03): the open interval, interval records, the open day, the year summary, gaps, and the
closes of intervals, days and years. -/

namespace Sys2Proof.Machine

/-- R39: an interval qualifies when its id is after the last own interval id, or there is none. -/
def qualifies (p : Period) (i : Id) : Bool :=
  match p.lastOwn with
  | none => true
  | some l => l.before i

/-- R43: the accumulators of an interval opened. -/
def formInterval (m : ConfigImage) (id : Id) (isPartial : Bool) : OpenInterval :=
  { id := id, components := m.components.map (fun c => c.map (fun _ => {})), flags := { isPartial := isPartial } }

/-- R44: a component minute taken into its accumulators. -/
def ComponentAcc.take (a : ComponentAcc) (c : ComponentMinute) : ComponentAcc :=
  let a := match c.state with
    | .valid => { a with sum := a.sum + c.c3.getD 0, valid := a.valid + 1 }
    | .maint => { a with maint := a.maint + 1 }
    | .fault => { a with fault := a.fault + 1 }
  let a := match c.mass with
    | some g => { a with massSum := a.massSum + g, massCount := a.massCount + 1 }
    | none => a
  { a with flags := a.flags.union c.flags }

/-- Component minutes taken place by place; a place without an accumulator or without a component minute stays. -/
def takeComponents : List (Option ComponentAcc) → List (Option ComponentMinute) → List (Option ComponentAcc)
  | some a :: as, some c :: cs => some (a.take c) :: takeComponents as cs
  | a :: as, _ :: cs => a :: takeComponents as cs
  | as, [] => as
  | [], _ => []

/-- R44, R45: a minute result and the closed-minute flags taken into the open interval. -/
def OpenInterval.take (o : OpenInterval) (r : MinuteResult) (operating abnormal : Bool) : OpenInterval :=
  { o with
    components := takeComponents o.components r.components,
    minutesTaken := o.minutesTaken + 1,
    operating := o.operating + bit operating,
    abnormal := o.abnormal + bit abnormal,
    o2Sum := o.o2Sum + ((r.o2.map (fun q => q.value)).getD 0),
    o2Count := o.o2Count + bit r.o2.isSome,
    qsSum := o.qsSum + ((r.qs.map (fun q => q.value)).getD 0),
    qsCount := o.qsCount + bit r.qs.isSome,
    flags := { o.flags with
      noFlow := o.flags.noFlow || !r.flowConfigured,
      shareSubstituted := o.flags.shareSubstituted || r.qs.any (fun q => q.shareSubstituted) } }

/-- R44 to R46: a minute result reaching the period unit; discarded in OFF and WAITING. -/
def takeMinute (r : MinuteResult) (s : State) : State :=
  match s.period.recording, s.period.openInterval with
  | .opened, some o =>
    s.setPeriod { s.period with
      openInterval := some (o.take r s.plant.closedOperating s.plant.closedAbnormal) }
  | _, _ => s

/-- A mean rounded once, and 0 with nothing to divide by (R49, R51, R56, R57). -/
def meanOrZero (sum : Int) (count : Nat) : Int := if count = 0 then 0 else roundDiv sum count

/-- R47: how many minutes of an interval have not been taken by a component. -/
def ComponentAcc.untaken (a : ComponentAcc) : Nat := 30 - (a.valid + a.maint + a.fault)

/-- R49, R50: a component's entry from its accumulators, with `extraFault` minutes counted as FAULT beside those taken. -/
def intervalEntry (m : ConfigImage) (c : ComponentConfig) (a : ComponentAcc) (fate : Fate) (extraFault : Nat) :
    IntervalEntry :=
  let mean := meanOrZero a.sum a.valid
  let status := intervalStatus a.valid a.maint (a.fault + extraFault) m.minValidMinutes
  let validated := (max (mean - c.deduction) 0).toNat
  { mean := mean, validated := validated, mass := saturateU32 (roundDiv a.massSum 1000).toNat, valid := a.valid,
    status := status,
    flags := { a.flags with
      massIncomplete := decide (a.massCount < a.valid),
      exceeded := status == .valid && fate == .counted && decide (c.intervalLimit < validated) } }

/-- R48 to R51: the record of the open interval with the given fate; `extra` gives the FAULT minutes to add to each
component. -/
def buildInterval (origin : Nat) (m : ConfigImage) (o : OpenInterval) (fate : Fate) (extra : ComponentAcc → Nat) :
    IntervalRecord :=
  { origin := origin, id := o.id, fate := fate, flags := o.flags, operating := o.operating, abnormal := o.abnormal,
    o2Mean := (meanOrZero o.o2Sum o.o2Count).toNat, qsMean := (meanOrZero o.qsSum o.qsCount).toNat,
    components := (List.range 8).map (fun n =>
      match m.components.getD n none, o.components.getD n none with
      | some c, some a => some (intervalEntry m c a fate (extra a))
      | _, _ => none) }

/-- R54: the provisional view of the open interval: the minutes that passed before a PARTIAL interval was opened count as
FAULT, those not yet reached do not. -/
def provisionalView (s : State) : Option IntervalRecord :=
  match s.period.recording, s.period.openInterval, s.clock.time with
  | .opened, some o, some t =>
    let passed := t.minute % 30 - o.minutesTaken
    some (buildInterval s.station s.config o (decideFate false o.operating o.abnormal) (fun _ => passed))
  | _, _, _ => none

/-! The year summary (R58 to R60). -/

/-- R58: a component's totals after an interval record. -/
def YearTotals.addInterval (t : YearTotals) (fate : Fate) (e : IntervalEntry) : YearTotals :=
  { t with
    counted := t.counted + bit (fate == .counted),
    valid := t.valid + bit (fate == .counted && e.status == .valid),
    exceeding := t.exceeding + bit e.flags.exceeded,
    mass := t.mass + e.mass }

/-- Totals changed at the places of the configured components; the others are left as they stand (R58). -/
def zipTotals {β : Type} (f : YearTotals → β → YearTotals) : List YearTotals → List (Option β) → List YearTotals
  | t :: ts, some e :: es => f t e :: zipTotals f ts es
  | t :: ts, none :: es => t :: zipTotals f ts es
  | ts, [] => ts
  | [], _ => []

/-- R58: the summary after an interval record. -/
def YearSummary.addInterval (y : YearSummary) (r : IntervalRecord) : YearSummary :=
  { y with
    operating := y.operating + r.operating,
    abnormal := y.abnormal + r.abnormal,
    interrupted := y.interrupted + bit (r.fate == .interrupted),
    components := zipTotals (fun t e => t.addInterval r.fate e) y.components r.components }

/-- R59: a component's totals after a day record. -/
def YearTotals.addDay (t : YearTotals) (e : DayEntry) : YearTotals :=
  let t := match e.status with
    | .notOperating => t
    | .valid => { t with operatingDays := t.operatingDays + 1, validDays := t.validDays + 1 }
    | .invalid => { t with operatingDays := t.operatingDays + 1, invalidDays := t.invalidDays + 1 }
  { t with exceedingDays := t.exceedingDays + bit e.flags.exceeded }

/-- R59: the summary after a day record. -/
def YearSummary.addDay (y : YearSummary) (entries : List (Option DayEntry)) : YearSummary :=
  { y with components := zipTotals YearTotals.addDay y.components entries }

/-- The summary changed. -/
def setSummary (y : YearSummary) (s : State) : State := s.setPeriod { s.period with summary := y }

/-- R60: both parts of the YEAR record offered, in order. -/
def offerYear (year : Nat) (s : State) : State :=
  let y := s.period.summary
  offerOwn (makeSlot .year2 (year2Data s.station year y))
    (offerOwn (makeSlot .year1 (year1Data s.station year y)) s)

/-- The summary cleared and given a year. -/
def restartSummary (year : Nat) (s : State) : State :=
  s.setPeriod { s.period with summary := {}, summaryYear := some year }

/-- R60: the year close: both parts offered, the summary cleared, the summary year becomes the following one. With the
summary year absent there is no summary to record. The record is the summary year's, and the year after it follows, also
at an ordinary close of a year that lies before the summary year (log entry 42). -/
def yearClose (s : State) : State :=
  match s.period.summaryYear with
  | some y => restartSummary (y + 1) (offerYear y s)
  | none => s

/-! The open day (R55 to R57). -/

/-- R55: a component's accumulators after an interval. -/
def DayAcc.add (a : DayAcc) (fate : Fate) (e : IntervalEntry) : DayAcc :=
  let counts := fate == .counted && e.status == .valid
  { validatedSum := a.validatedSum + (if counts then e.validated else 0),
    valid := a.valid + bit counts,
    massSum := a.massSum + e.mass,
    flags := if fate = .counted then a.flags.union { e.flags with exceeded := false } else a.flags }

/-- Day accumulators changed at the places of the configured components. -/
def zipDay (fate : Fate) : List DayAcc → List (Option IntervalEntry) → List DayAcc
  | a :: as, some e :: es => a.add fate e :: zipDay fate as es
  | a :: as, none :: es => a :: zipDay fate as es
  | as, [] => as
  | [], _ => []

/-- R55: the open day after an interval record. -/
def OpenDay.add (d : OpenDay) (r : IntervalRecord) : OpenDay :=
  let counted := r.fate == .counted
  { d with
    intervals := d.intervals + 1,
    anyPartial := d.anyPartial || r.flags.isPartial,
    anyNoFlow := d.anyNoFlow || r.flags.noFlow,
    anyShareSubstituted := d.anyShareSubstituted || r.flags.shareSubstituted,
    operating := d.operating + r.operating,
    abnormal := d.abnormal + r.abnormal,
    counted := d.counted + bit counted,
    o2Sum := d.o2Sum + (if counted then r.o2Mean else 0),
    qsSum := d.qsSum + (if counted then r.qsMean else 0),
    components := zipDay r.fate d.components r.components }

/-- R56, R57: a component's entry of the day record. -/
def dayEntry (m : ConfigImage) (c : ComponentConfig) (d : OpenDay) (a : DayAcc) : DayEntry :=
  let mean := (meanOrZero a.validatedSum a.valid).toNat
  let status := dayStatus d.counted a.valid m.dayAllowance
  { mean := mean, mass := saturateU32 a.massSum, counted := d.counted, valid := a.valid, notValid := d.counted - a.valid,
    status := status,
    flags := { a.flags with exceeded := status == .valid && decide (c.dayLimit < mean) } }

/-- R57: the day record of the open day. -/
def buildDay (origin : Nat) (m : ConfigImage) (d : OpenDay) : DayRecord :=
  { origin := origin, day := d.day,
    flags := { noFlow := d.anyNoFlow, shareSubstituted := d.anyShareSubstituted,
               isPartial := decide (d.intervals < 48) || d.anyPartial },
    operating := d.operating, abnormal := d.abnormal,
    o2Mean := (meanOrZero d.o2Sum d.counted).toNat, qsMean := (meanOrZero d.qsSum d.counted).toNat,
    intervals := d.intervals,
    components := (List.range 8).map (fun n =>
      (m.components.getD n none).map (fun c => dayEntry m c d (d.components.getD n {}))) }

/-- R57: the day close: the record offered, the summary's day counts updated, the open day absent. -/
def dayClose (s : State) : State :=
  match s.period.openDay with
  | none => s
  | some d =>
    let r := buildDay s.station s.config d
    let s := offerOwn (makeSlot .day (dayData r)) s
    s.setPeriod { s.period with summary := s.period.summary.addDay r.components, openDay := none }

/-- R55: the open day of an interval opened: formed empty when there is none or it is another day's. -/
def formDay (i : Id) (s : State) : State :=
  match s.period.openDay with
  | some d => if d.day = i.toDay then s else s.setPeriod { s.period with openDay := some { day := i.toDay } }
  | none => s.setPeriod { s.period with openDay := some { day := i.toDay } }

/-- The interval opened, whatever came before (R41 step 6, R52 step 8). -/
def openInterval (i : Id) (isPartial : Bool) (s : State) : State :=
  let s := formDay i s
  s.setPeriod { s.period with recording := .opened, openInterval := some (formInterval s.config i isPartial) }

/-- The last day of its year. -/
def lastOfYear (i : Id) : Bool := i.day == daysInYear i.year

/-- R41, step 1: the gap counted into the summary as far as it lies in the summary year. -/
def countGap (l x : Id) (s : State) : State :=
  match s.period.summaryYear with
  | some y =>
    let p := s.period.summary
    setSummary { p with gapIntervals := p.gapIntervals + gapIntervalsInYear l x y } s
  | none => s

/-- R41, step 2: the open day of an earlier day closed late, and the year close where it ends the summary year; whether
that year close was made. -/
def closeLateDay (x : Id) (s : State) : State × Bool :=
  match s.period.openDay with
  | some d =>
    if d.day.before x.toDay then
      let s := dayClose s
      if lastOfYear d.day && s.period.summaryYear == some d.day.year then (yearClose s, true) else (s, false)
    else (s, false)
  | none => (s, false)

/-- R41, step 3: a summary year earlier than X's is recorded, unless step 2 entered it, and the summary restarts in the
year of X. -/
def lateYear (x : Id) (entered : Bool) (s : State) : State :=
  match s.period.summaryYear with
  | some y =>
    if y < x.year then restartSummary x.year (if entered then s else offerYear y s) else s
  | none => s

/-- R41, step 4: an absent summary year becomes the year of X. -/
def firstSummaryYear (x : Id) (s : State) : State :=
  match s.period.summaryYear with
  | none => s.setPeriod { s.period with summaryYear := some x.year }
  | some _ => s

/-- The gap before X when the last own interval id L is present and X is beyond L + 1 (R41). -/
def gapBefore (p : Period) (x : Id) : Option Id :=
  match p.lastOwn with
  | some l => if intervalNumber l + 1 < intervalNumber x then some l else none
  | none => none

/-- R42: the GAP notice. -/
def offerGap (l x : Id) (s : State) : State :=
  offerNotice .gap (idBytes l.nextInterval ++ idBytes x.previousInterval
    ++ be 4 (intervalNumber x - intervalNumber l - 1)) s

/-- R41: the first interval after OFF or WAITING opened: the gap, the day and the year brought up to X first. -/
def openFirst (x : Id) (isPartial : Bool) (s : State) : State :=
  let gap := gapBefore s.period x
  let before := s.period.summaryYear
  let s := match gap with
    | some l => countGap l x s
    | none => s
  let (s, entered) := closeLateDay x s
  let s := firstSummaryYear x (lateYear x entered s)
  let s := match gap with
    | some l => if before != some x.year && s.period.summaryYear == some x.year then countGap l x s else s
    | none => s
  let s := match gap with
    | some l => offerGap l x s
    | none => s
  openInterval x isPartial s

/-- R52, steps 1 to 7: the open interval closed with its record. -/
def closeOpenInterval (o : OpenInterval) (fate : Fate) (s : State) : State :=
  let r := buildInterval s.station s.config o fate ComponentAcc.untaken
  let s := s.setPeriod { s.period with lastOwn := some o.id, openInterval := none }
  let s := offerOwn (makeSlot .interval (intervalData r)) s
  let s := s.setPeriod { s.period with summary := s.period.summary.addInterval r,
                                       openDay := s.period.openDay.map (fun d => d.add r) }
  let s := if o.id.index = 47 then dayClose s else s
  if o.id.index = 47 && lastOfYear o.id then yearClose s else s

/-- R47, R52: an interval close of the station clock in RECORDING: in OPEN the open interval closes and the next one opens;
in WAITING the interval that begins is opened if it qualifies (R40); in OFF nothing. -/
def periodIntervalClose (early : Bool) (next : Id) (s : State) : State :=
  match s.period.recording, s.period.openInterval with
  | .opened, some o =>
    let o := { o with flags := { o.flags with earlyClose := early } }
    openInterval next false (closeOpenInterval o (decideFate false o.operating o.abnormal) s)
  | .waiting, _ => if qualifies s.period next then openFirst next false s else s
  | _, _ => s

/-- R53: a RESTART closes the open interval as INTERRUPTED, and the period unit enters OFF. -/
def interruptPeriod (s : State) : State :=
  let s := match s.period.recording, s.period.openInterval with
    | .opened, some o => closeOpenInterval o .interrupted s
    | _, _ => s
  s.setPeriod { s.period with recording := .off, openInterval := none }

/-- The interval a RESTART would interrupt (R191). -/
def interruptedId (p : Period) : Option Id :=
  match p.recording, p.openInterval with
  | .opened, some o => some o.id
  | _, _ => none

/-- R40: the station enters RECORDING by acquiring time: the running interval is opened at once if it qualifies, PARTIAL
unless the time is its first second; otherwise the period unit waits. -/
def enterRecordingByTime (t : StationTime) (s : State) : State :=
  if qualifies s.period t.interval then openFirst t.interval (t.minute % 30 != 0 || t.second != 0) s
  else s.setPeriod { s.period with recording := .waiting }

end Sys2Proof.Machine
end

