-- ==== Sys2Proof/Machine/RecordStore.lean ====
section
/-! DEFINITION. The record store (08) at run time: the block table, protection and candidates, the order of work, what
begins and what completes an operation, relocation, cleanup, and the day index. -/

namespace Sys2Proof.Machine

/-! Areas and blocks. -/

/-- The OPEN state of an area's block. -/
def Area.openState : Area → BlockState
  | .own => .openOwn
  | .mirror => .openMirror

/-- The FULL state of an area's block. -/
def Area.fullState : Area → BlockState
  | .own => .fullOwn
  | .mirror => .fullMirror

/-- The queue of an area. -/
def Store.queue (t : Store) : Area → List SlotImage
  | .own => t.ownQueue
  | .mirror => t.mirrorQueue

/-- The queue of an area replaced. -/
def Store.setQueue (t : Store) (a : Area) (q : List SlotImage) : Store :=
  match a with
  | .own => { t with ownQueue := q }
  | .mirror => { t with mirrorQueue := q }

/-- Whether an area is STALLED (R141). -/
def Store.stalled (t : Store) : Area → Bool
  | .own => t.ownStalled
  | .mirror => t.mirrorStalled

/-- The OPEN block of an area, at most one (R129). -/
def Store.openBlock (t : Store) (a : Area) : Option Nat :=
  t.blocks.findIdx? (fun e => e.state == a.openState)

/-- Whether a block belongs to an area as one of its record blocks: OPEN, FULL, or the area's RELOCATING source (R129).
The relocation context names that source's area, since a block is RELOCATING only as the source of the relocation in progress.
A COPYING target is read by no walk (R149). -/
def Store.belongs (t : Store) (a : Area) (e : BlockEntry) : Bool :=
  e.state == a.openState || e.state == a.fullState ||
    (e.state == .relocating && t.relocation.any (fun r => r.area == a))

/-- Numbered things in rising order of a key, insertion by insertion. -/
def insertByKey (x : Nat × Nat) : List (Nat × Nat) → List (Nat × Nat)
  | [] => [x]
  | y :: ys => if x.1 < y.1 then x :: y :: ys else y :: insertByKey x ys

/-- (key, thing) pairs in rising order of key. -/
def sortByKey (l : List (Nat × Nat)) : List (Nat × Nat) := l.foldr insertByKey []

/-- The blocks of an area in sequence order (R128). -/
def Store.areaBlocks (t : Store) (a : Area) : List Nat :=
  (sortByKey ((t.blocks.zipIdx.filter (fun e => t.belongs a e.1)).map (fun e => (e.1.sequence, e.2)))).map (fun e => e.2)

/-! Protection and candidates (R137). -/

/-- R137: a pool block is protected when its newest date lies in the current or the previous report year; while the clock is
untimed every block is. -/
def protectedBlock (time : Option StationTime) (e : BlockEntry) : Bool :=
  match time with
  | none => true
  | some t =>
    match e.newest with
    | some d => d.year == t.year || d.year + 1 == t.year
    | none => false

/-- The rank of a block by its newest date, a block with no dated record being the oldest (R137). A block to be sacrificed
ranks in the same way (R140; log entry 58). -/
def ageRank (e : BlockEntry) : Nat :=
  match e.newest with
  | some d => dayNumber d.year d.day + 1
  | none => 0

/-- Of (block, entry) pairs the one whose newest date is oldest, the lower sequence between equal dates (R137, R140). -/
def oldestOf : List (BlockEntry × Nat) → Option (BlockEntry × Nat)
  | [] => none
  | x :: xs =>
    match oldestOf xs with
    | none => some x
    | some y =>
      if ageRank y.1 < ageRank x.1 || (ageRank y.1 == ageRank x.1 && y.1.sequence < x.1.sequence) then some y else some x

/-- R137: whether a block is a candidate for an erase. -/
def isCandidate (time : Option StationTime) (e : BlockEntry) : Bool :=
  (e.state == .fullOwn || e.state == .fullMirror) && !protectedBlock time e && !e.erasing

/-- R137: the chosen candidate. -/
def candidate (s : State) : Option Nat :=
  (oldestOf (s.store.blocks.zipIdx.filter (fun e => isCandidate s.clock.time e.1))).map (fun e => e.2)

/-- R154: the number of candidates at this moment. -/
def candidateCount (s : State) : Nat := (s.store.blocks.filter (isCandidate s.clock.time)).length

/-- R140: the FULL_MIRROR block the OWN area would sacrifice; one with no dated record ranks as the oldest, which can arise
while the clock is untimed (log entry 58). -/
def sacrificeBlock (s : State) : Option Nat :=
  (oldestOf (s.store.blocks.zipIdx.filter (fun e => e.1.state == .fullMirror && !e.1.erasing))).map (fun e => e.2)

/-- R140: the block an area that needs an erase may erase. -/
def chooseErase (a : Area) (s : State) : Option (Nat × ErasePurpose) :=
  match candidate s with
  | some b => some (b, .candidate)
  | none =>
    match a with
    | .own => (sacrificeBlock s).map (fun b => (b, .sacrifice))
    | .mirror => none

/-! The day index (R147, R148). -/

/-- The entry of an origin and day. -/
def indexEntry (index : List IndexEntry) (origin : Nat) (day : Id) : Option IndexEntry :=
  index.find? (fun e => e.origin == origin && e.day == day)

/-- A year the index covers: Y or Y − 1 (R147). -/
def indexedYear (y : Option Nat) (year : Nat) : Bool := y.any (fun n => year == n || year + 1 == n)

/-- R148: the origins indexed: the station itself and the partners of the configuration in force. -/
def indexedOrigin (s : State) (origin : Nat) : Bool := origin == s.station || s.config.partners.contains origin

/-- R148: a record programmed with PASS sets the entry of its origin and day if it has none and its year is indexed. -/
def setIndex (r : SlotImage) (block slot : Nat) (s : State) : State :=
  match r.date with
  | some d =>
    if indexedYear s.store.indexYear d.year && indexedOrigin s r.origin && (indexEntry s.store.index r.origin d).isNone then
      s.setStore { s.store with index := s.store.index ++ [{ origin := r.origin, day := d, block := block, slot := slot }] }
    else s
  | none => s

/-- R147: Y advances to a later year of station time; entries of years before Y − 1 are removed. -/
def advanceIndexYear (year : Nat) (s : State) : State :=
  if s.store.indexYear.all (fun y => y < year) then
    s.setStore { s.store with indexYear := some year, index := s.store.index.filter (fun e => year ≤ e.day.year + 1) }
  else s

/-- R148: entries of origins no longer indexed are removed when a configuration comes into force. -/
def pruneIndex (s : State) : State :=
  s.setStore { s.store with index := s.store.index.filter (fun e => indexedOrigin s e.origin) }

/-- R144, R148: entries pointing into the source are moved to the target, at the same slot. -/
def moveIndex (source target : Nat) (s : State) : State :=
  s.setStore { s.store with index := s.store.index.map (fun e => if e.block = source then { e with block := target } else e) }

/-- The block after another in a list. -/
def blockAfter (b : Nat) : List Nat → Option Nat
  | x :: y :: rest => if x = b then some y else blockAfter b (y :: rest)
  | _ => none

/-- R139: an entry pointing into a block whose erase begins is re-pointed to slot 1 of the next block of the area in sequence
order, if that block's oldest date is not after the entry's day, and removed otherwise. -/
def repointIndex (b : Nat) (s : State) : State :=
  let area : Area := if (s.block b).state = .fullMirror then .mirror else .own
  let next := blockAfter b (s.store.areaBlocks area)
  let repoint (e : IndexEntry) : Option IndexEntry :=
    if e.block != b then some e
    else
      match next with
      | some n =>
        match (s.block n).oldest with
        | some d => if d.notAfter e.day then some { e with block := n, slot := 1 } else none
        | none => none
      | none => none
  s.setStore { s.store with index := s.store.index.filterMap repoint }

/-! Drops and stalls (R134, R140, R141). -/

/-- The gap count of an origin increased (R161, R162). -/
def addGap (origin n : Nat) (s : State) : State :=
  s.setMirror { s.mirror with
    origins := updateAt s.mirror.origins (origin - 1) (fun e => { e with gap := count16 e.gap n }) }

/-- A mirror record dropped: one counted in its origin's gap count (R134, R162). -/
def dropMirror (s : State) (r : SlotImage) : State := addGap r.origin 1 s

/-- R141: the MIRROR area enters STALLED and every record of its queue is dropped and counted. -/
def stallMirror (s : State) : State :=
  let s := s.store.mirrorQueue.foldl dropMirror s
  s.setStore { s.store with mirrorQueue := [], mirrorStalled := true }

/-- An area enters STALLED (R140, R141). -/
def stallArea (a : Area) (s : State) : State :=
  match a with
  | .own => s.setStore { s.store with ownStalled := true }
  | .mirror => stallMirror s

/-- R141: a STALLED area is re-examined and returns to NORMAL when the erased list holds a block, a candidate exists, or for
OWN a FULL_MIRROR block exists. -/
def recheckStalled (s : State) : State :=
  let free := !s.store.erasedList.isEmpty || (candidate s).isSome
  s.setStore { s.store with
    ownStalled := s.store.ownStalled && !(free || s.store.blocks.any (fun e => e.state == .fullMirror)),
    mirrorStalled := s.store.mirrorStalled && !free }

/-! The beginning of operations. -/

/-- An erase begins. A FULL block first gets its erasing mark and its day-index entries are dealt with (R139). -/
def beginErase (b : Nat) (purpose : ErasePurpose) (s : State) : State :=
  let s := match purpose with
    | .candidate | .sacrifice => repointIndex b (setBlock b (fun e => { e with erasing := true }) s)
    | .cleanup | .config => s
  setProgrammer (some (.erase b purpose)) s

/-- A header takes the value of the sequence counter, which is then increased (R128). -/
def takeSequence (s : State) : State :=
  s.setStore { s.store with sequenceCounter := nextSequence s.store.sequenceCounter }

/-- The front of the erased list is taken. -/
def takeErased (s : State) : State := s.setStore { s.store with erasedList := s.store.erasedList.drop 1 }

/-- R135: an area opens the block at the front of the erased list: its header program begins. Until that completes the block
stands ERASED in the block table, off the erased list, and so does a relocation target (log entry 50). -/
def beginOpen (a : Area) (s : State) : State :=
  match s.store.erasedList with
  | b :: _ => setProgrammer (some (.programOpenHeader a b s.store.sequenceCounter)) (takeSequence (takeErased s))
  | [] => s

/-- R143: the front of the erased list becomes the target: its header program begins. -/
def beginTarget (s : State) : State :=
  match s.store.erasedList with
  | b :: _ => setProgrammer (some (.programTargetHeader b s.store.sequenceCounter)) (takeSequence (takeErased s))
  | [] => s

/-- R142: a relocation begins from a block of an area; the record is to take `recordSlot`. -/
def beginRelocation (a : Area) (b recordSlot : Nat) (s : State) : State :=
  let sequence := (s.block b).sequence
  let s := setBlock b (fun e => { e with state := .relocating, owed := false }) s
  s.setStore { s.store with
    relocation := some { area := a, source := b, sourceSequence := sequence, recordSlot := recordSlot },
    relocations := count16 s.store.relocations 1 }

/-- R143: a MIRROR relocation that would stall the area is abandoned: the record is dropped and counted, the source becomes
FULL_MIRROR, the context absent, the area STALLED. -/
def abandonMirrorRelocation (r : Relocation) (s : State) : State :=
  let s := match s.store.mirrorQueue with
    | head :: rest => dropMirror (s.setStore { s.store with mirrorQueue := rest }) head
    | [] => s
  let s := setBlock r.source (fun e => { e with state := .fullMirror }) s
  stallMirror (s.setStore { s.store with relocation := none })

/-! The order of work (R131). -/

/-- A kind of work the idle programmer may take. -/
inductive Work where
  /-- The header of a relocation target (R143). -/
  | targetHeader
  /-- The erase a relocation needs (R140, R143). -/
  | targetErase (a : Area)
  /-- The copy of a source slot into the target (R143). -/
  | copySlot (source target slot : Nat)
  /-- The relocated record (R144). -/
  | recordProgram (target slot : Nat)
  /-- COPY_END (R144). -/
  | copyEnd (target slot : Nat)
  /-- The erase of the front of the cleanup list (R145). -/
  | cleanupErase (b : Nat)
  /-- The RETIRED header of the front of the cleanup list (R145). -/
  | cleanupHeader (b : Nat)
  /-- A config slot (R150). -/
  | configProgram (slot : Nat)
  /-- The erase of block 0 (R150). -/
  | configErase
  /-- The erase a queue head needs (R140). -/
  | headErase (a : Area)
  /-- The block a queue head needs opened (R135). -/
  | openBlock (a : Area)
  /-- The relocation owed before the first program into a block taken back (R152). -/
  | owedRelocation (a : Area) (b recordSlot : Nat)
  /-- The queue head (R133, R134). -/
  | headProgram (a : Area) (b slot : Nat)
  /-- Erase-ahead (R138). -/
  | eraseAhead (b : Nat)
  deriving DecidableEq, Repr

/-- The work of the cleanup list (R145). -/
def cleanupWork (t : Store) : Option Work :=
  match t.cleanup with
  | [] => none
  | c :: _ => some (if c.erased then .cleanupHeader c.block else .cleanupErase c.block)

/-- The step of the relocation in progress, or the cleanup list's work when it is available (R131, first kind). -/
def relocationWork (t : Store) : Option Work :=
  match t.relocation with
  | none => cleanupWork t
  | some r =>
    match r.phase, r.target with
    | .target, _ =>
      if r.area = .own && t.ownStalled then none
      else some (if t.erasedList.isEmpty then .targetErase r.area else .targetHeader)
    | .copying, some target => some (.copySlot r.source target r.copyPosition)
    | .record, some target => if (t.queue r.area).isEmpty then none else some (.recordProgram target r.recordSlot)
    | .copyEnd, some target => some (.copyEnd target (if r.recordSlot = 1023 then 1023 else r.recordSlot + 1))
    | .cleanup, _ => cleanupWork t
    | _, none => none

/-- The config write's work (R131, second kind; R150). -/
def configWork (t : Store) : Option Work :=
  match t.configWrite with
  | none => none
  | some _ => some (if t.configNext ≤ 1023 then .configProgram t.configNext else .configErase)

/-- Whether an area's head may be taken: it waits, the area is NORMAL (R131), and no relocation of the area is before its
CLEANUP (R142). -/
def headAvailable (t : Store) (a : Area) : Bool :=
  !(t.queue a).isEmpty && !t.stalled a && !t.relocation.any (fun r => r.area == a && r.phase != .cleanup)

/-- The erase needed by a head whose area has no OPEN block and finds no ERASED block (R131, third kind). -/
def headEraseWork (t : Store) (a : Area) : Option Work :=
  if headAvailable t a && (t.openBlock a).isNone && t.erasedList.isEmpty then some (.headErase a) else none

/-- The head's own work (R131, fourth and fifth kinds). -/
def headWork (t : Store) (a : Area) : Option Work :=
  if headAvailable t a then
    match t.openBlock a with
    | some b =>
      let e := t.blocks.getD b { state := .retired }
      if e.owed then (if t.relocation.isNone then some (.owedRelocation a b e.fill) else none)
      else some (.headProgram a b e.fill)
    | none => if t.erasedList.isEmpty then none else some (.openBlock a)
  else none

/-- Erase-ahead (R131, sixth kind; R138). -/
def eraseAheadWork (s : State) : Option Work :=
  if s.store.erasedList.length < 2 then (candidate s).map .eraseAhead else none

/-- R131: the first kind of work that is available. -/
def nextWork (s : State) : Option Work :=
  let t := s.store
  relocationWork t <|> configWork t <|> headEraseWork t .own <|> headEraseWork t .mirror
    <|> headWork t .own <|> headWork t .mirror <|> eraseAheadWork s

/-- A kind of work taken: it begins an operation, or it settles something that lets the list be examined again (a stall, an
abandoned relocation, a relocation formed). -/
def takeWork (w : Work) (s : State) : State :=
  match w with
  | .targetHeader => beginTarget s
  | .targetErase a =>
    match chooseErase a s with
    | some (b, p) => beginErase b p s
    | none =>
      match a, s.store.relocation with
      | .mirror, some r => abandonMirrorRelocation r s
      | _, _ => stallArea a s
  | .copySlot src tgt slot => setProgrammer (some (.copy src tgt slot)) s
  | .recordProgram tgt slot => setProgrammer (some (.programRecord tgt slot)) s
  | .copyEnd tgt slot => setProgrammer (some (.programCopyEnd tgt slot)) s
  | .cleanupErase b => beginErase b .cleanup s
  | .cleanupHeader b => setProgrammer (some (.programRetiredHeader b s.store.sequenceCounter)) (takeSequence s)
  | .configProgram slot => setProgrammer (some (.programConfig slot)) s
  | .configErase => beginErase 0 .config s
  | .headErase a =>
    match chooseErase a s with
    | some (b, p) => beginErase b p s
    | none => stallArea a s
  | .openBlock a => beginOpen a s
  | .owedRelocation a b slot => beginRelocation a b slot s
  | .headProgram a b slot => setProgrammer (some (.programHead a b slot)) s
  | .eraseAhead b => beginErase b .candidate s

/-- The list examined until an operation begins or no work is available. At most a few settlings can follow one another: a
stall of each area, an abandoned relocation, an owed relocation formed. -/
def examineWork : Nat → State → State
  | 0, s => s
  | fuel + 1, s =>
    match nextWork s with
    | none => s
    | some w =>
      let s' := takeWork w s
      if s'.store.programmer.isSome then s' else examineWork fuel s'

/-- The programmer may begin work: it is idle, no store read waits for it (R130), and the station is neither in SCAN, where
the scan's own work is its only work, nor in FAILED, where the store performs no operations (R153, R192). -/
def programmerFree (s : State) : Bool :=
  s.store.programmer.isNone && s.readout.waiting.isEmpty && s.ctrl.state != .scan && s.ctrl.state != .failed

/-! The completion of operations. -/

/-- Dates widened by a record's date (R133 step 2). -/
def widen (r : SlotImage) (e : BlockEntry) : BlockEntry :=
  match r.date with
  | none => e
  | some d =>
    { e with oldest := some (match e.oldest with
               | some o => if d.before o then d else o
               | none => d),
             newest := some (match e.newest with
               | some n => if n.before d then d else n
               | none => d) }

/-- A record kind that is broadcast when programmed: interval, day and YEAR parts (R133 step 5, R156). -/
def isBroadcastKind (r : SlotImage) : Bool :=
  match r.kind with
  | some .interval | some .day | some .year1 | some .year2 => true
  | _ => false

/-- The ids of an origin entry advanced for a record's kind: the stored id (R163). -/
def setStoredId (r : SlotImage) (e : OriginEntry) : OriginEntry :=
  match r.kind with
  | some .interval => { e with storedInterval := some r.id }
  | some .day => { e with storedDay := some r.id.toDay }
  | some .year1 => { e with storedYear1 := some (yearId r.id.year) }
  | some .year2 => { e with storedYear2 := some (yearId r.id.year) }
  | _ => e

/-- R133, steps 1 to 5, of an own record programmed into a block: it leaves the queue, the block's fill point and dates
advance, its day-index entry is set, the record-loss mark is cleared, and its RESULT is offered. -/
def ownRecordPass (r : SlotImage) (b slot : Nat) (s : State) : State :=
  let s := s.setStore { s.store with ownQueue := s.store.ownQueue.drop 1 }
  let s := setBlock b (fun e => widen r { e with fill := slot + 1 }) s
  let s := setRecordLoss false (setIndex r b slot s)
  if isBroadcastKind r then offerResult (r.data ++ r.spare) s else s

/-- R134: a mirror record programmed into a block: it leaves the queue, the block and the day index are updated, and its
origin's stored id advances (R163). -/
def mirrorRecordPass (r : SlotImage) (b slot : Nat) (s : State) : State :=
  let s := s.setStore { s.store with mirrorQueue := s.store.mirrorQueue.drop 1 }
  let s := setBlock b (fun e => widen r { e with fill := slot + 1 }) s
  let s := setIndex r b slot s
  s.setMirror { s.mirror with origins := updateAt s.mirror.origins (r.origin - 1) (setStoredId r) }

/-- A record of an area programmed with PASS (R133, R134). -/
def recordPass (a : Area) (r : SlotImage) (b slot : Nat) (s : State) : State :=
  match a with
  | .own => ownRecordPass r b slot s
  | .mirror => mirrorRecordPass r b slot s

/-- R136: an OPEN block whose fill point passes slot 1,023 becomes FULL. -/
def fillCheck (a : Area) (b : Nat) (s : State) : State :=
  setBlock b (fun e => if e.state = a.openState && 1023 < e.fill then { e with state := a.fullState } else e) s

/-- A block withdrawn: RETIRED from the moment it joins the cleanup list (R145). Its entry keeps its other fields (log
entry 54). -/
def retireToCleanup (b : Nat) (s : State) : State :=
  let s := setBlock b (fun e => { e with state := .retired }) s
  s.setStore { s.store with cleanup := s.store.cleanup ++ [{ block := b }] }

/-- A relocation that waits in phase RECORD for a record of an empty queue (log entry 48) is given up, as R143 gives up a
MIRROR one: its source becomes FULL with its fill point as it stands, its target joins the cleanup list (R145, R146), and the
context is absent (log entry 53). -/
def giveUpWaitingRelocation (s : State) : State :=
  match s.store.relocation with
  | some r =>
    if r.phase = .record then
      let s := setBlock r.source (fun e => { e with state := r.area.fullState }) s
      let s := match r.target with
        | some b => retireToCleanup b s
        | none => s
      s.setStore { s.store with relocation := none }
    else s
  | none => s

/-- The program of a queue head completes (R133, R134, R142). An OWN program that FAILs while a MIRROR relocation waits for a
record gives that one up and begins an OWN relocation (log entry 53). -/
def headComplete (a : Area) (b slot : Nat) (pass : Bool) (s : State) : State :=
  match s.store.queue a with
  | [] => s
  | r :: rest =>
    if pass then fillCheck a b (recordPass a r b slot (writeSlot b slot (.image r) s))
    else
      let s := setBlock b (fun e => { e with fill := slot + 1 }) (writeSlot b slot .void s)
      if a = .mirror && s.store.relocation.isSome then
        let s := dropMirror (s.setStore (s.store.setQueue .mirror rest)) r
        setBlock b (fun e => { e with state := .fullMirror }) s
      else beginRelocation a b slot (giveUpWaitingRelocation s)

/-- The header program of an opening completes (R135). -/
def openHeaderComplete (a : Area) (b sequence : Nat) (pass : Bool) (s : State) : State :=
  if pass then
    setBlock b (fun _ => { state := a.openState, sequence := sequence, fill := 1 })
      (writeSlot b 0 (.image (makeSlot .header (headerData a.code sequence 0))) s)
  else retireToCleanup b (writeSlot b 0 .void s)

/-- The relocation context changed. -/
def setRelocation (r : Option Relocation) (s : State) : State := s.setStore { s.store with relocation := r }

/-- The phase after the copies up to a position (R143, R144): phase RECORD is skipped when the record slot is 1,023. -/
def phaseAt (position recordSlot : Nat) : RelocPhase :=
  if position < recordSlot then .copying else if recordSlot = 1023 then .copyEnd else .record

/-- R146: a FAIL into the target abandons it: it joins the cleanup list and the relocation returns to phase TARGET. A record
that had passed into the target before its COPY_END failed is lost with it, and phase RECORD takes the queue's next head
(log entry 48). -/
def abandonTarget (r : Relocation) (b : Nat) (s : State) : State :=
  setRelocation (some { r with target := none, copyPosition := 1, phase := .target }) (retireToCleanup b s)

/-- The target's header program completes (R143, R146). -/
def targetHeaderComplete (b sequence : Nat) (pass : Bool) (s : State) : State :=
  match s.store.relocation with
  | none => s
  | some r =>
    if pass then
      let s := writeSlot b 0 (.image (makeSlot .header (headerData r.area.code sequence r.sourceSequence))) s
      let s := setBlock b (fun _ => { state := .copying, sequence := sequence, replaces := r.sourceSequence, fill := 1 }) s
      setRelocation (some { r with target := some b, copyPosition := 1, phase := phaseAt 1 r.recordSlot }) s
    else abandonTarget r b (writeSlot b 0 .void s)

/-- A slot copy completes: the source slot's contents stand in the target slot of the same number, VOID as VOID (R143), or
the target is abandoned (R146). An erased source slot, which a failed erase can leave, leaves the target slot erased (log
entry 55). -/
def copyComplete (source target slot : Nat) (pass : Bool) (s : State) : State :=
  match s.store.relocation with
  | none => s
  | some r =>
    if pass then
      let s := match dieRead s.store.die (slotAddress source slot) with
        | some c => writeSlot target slot c s
        | none => s
      let s := setBlock target (fun e => { e with fill := slot + 1 }) s
      setRelocation (some { r with copyPosition := slot + 1, phase := phaseAt (slot + 1) r.recordSlot }) s
    else abandonTarget r target (writeSlot target slot .void s)

/-- The program of the relocated record completes (R144, R146). -/
def recordComplete (b slot : Nat) (pass : Bool) (s : State) : State :=
  match s.store.relocation with
  | none => s
  | some r =>
    if pass then
      match s.store.queue r.area with
      | [] => s
      | head :: _ =>
        setRelocation (some { r with phase := .copyEnd })
          (recordPass r.area head b slot (writeSlot b slot (.image head) s))
    else abandonTarget r b (writeSlot b slot .void s)

/-- The earlier of two dates, where present. -/
def earlierDate (a b : Option Id) : Option Id :=
  match a, b with
  | some x, some y => some (if x.before y then x else y)
  | some x, none => some x
  | none, y => y

/-- The later of two dates, where present. -/
def laterDate (a b : Option Id) : Option Id :=
  match a, b with
  | some x, some y => some (if x.before y then y else x)
  | some x, none => some x
  | none, y => y

/-- COPY_END completes: the relocation is complete (R144), or the target is abandoned (R146). -/
def copyEndComplete (b slot : Nat) (pass : Bool) (s : State) : State :=
  match s.store.relocation with
  | none => s
  | some r =>
    if pass then
      let source := s.block r.source
      let s := writeSlot b slot (.image (makeSlot .copyEnd (copyEndData r.sourceSequence r.recordSlot))) s
      let s := setBlock b (fun e => { e with
        state := if 1023 < slot + 1 then r.area.fullState else r.area.openState, fill := slot + 1,
        oldest := earlierDate source.oldest e.oldest, newest := laterDate source.newest e.newest }) s
      let s := retireToCleanup r.source (moveIndex r.source b s)
      setRelocation (some { r with phase := .cleanup }) s
    else abandonTarget r b (writeSlot b slot .void s)

/-- The front block leaves the cleanup list; an empty list ends a relocation in phase CLEANUP (R145). -/
def finishCleanup (s : State) : State :=
  let rest := s.store.cleanup.drop 1
  let s := s.setStore { s.store with cleanup := rest }
  if rest.isEmpty && s.store.relocation.any (fun r => r.phase == .cleanup) then setRelocation none s else s

/-- The RETIRED header of a block of the cleanup list completes; a FAIL leaves the block RETIRED in the table (R145),
with its former sequence and fill point; its dates stay in either case (log entry 54). -/
def retiredHeaderComplete (b sequence : Nat) (pass : Bool) (s : State) : State :=
  if pass then
    finishCleanup (setBlock b (fun e => { e with sequence := sequence, replaces := 0, fill := 1 })
      (writeSlot b 0 (.image (makeSlot .header (headerData 3 sequence 0))) s))
  else finishCleanup (writeSlot b 0 .void s)

/-- The origins whose records a block holds, station n at bit n − 1 (R140, R197). -/
def originsHeld (die : List (Nat × SlotContent)) (b : Nat) : Nat :=
  let origins := (blockSlots die b).filterMap (fun e => (e.2.good?).bind (fun r =>
    if isBroadcastKind r || r.kind == some .notice then some r.origin else none))
  ((List.range 8).map (fun n => if origins.contains (n + 1) then 2 ^ n else 0)).sum

/-- An erase of a FULL block that passed: the block becomes ERASED and joins the back of the erased list; a sacrificed one
also brings the MIRROR_SACRIFICED notice (R139, R140). -/
def fullErased (b : Nat) (purpose : ErasePurpose) (s : State) : State :=
  let e := s.block b
  let held := originsHeld s.store.die b
  let s := setBlock b (fun _ => { state := .erased }) (eraseSlots b s)
  let s := s.setStore { s.store with erasedList := s.store.erasedList ++ [b] }
  match purpose with
  | .sacrifice =>
    offerNotice .mirrorSacrificed (be 1 b ++ optionIdBytes e.oldest ++ optionIdBytes e.newest ++ be 1 held) s
  | _ => s

/-- An erase of a pool block completes (R139, R140, R145); STALLED areas are re-examined (R141). A FAIL also clears the mark
that the block is being erased (log entry 51). A RETIRED block's entry keeps its dates (log entry 54). -/
def poolEraseComplete (b : Nat) (purpose : ErasePurpose) (pass : Bool) (s : State) : State :=
  let s :=
    match purpose, pass with
    | .cleanup, true =>
      let s := eraseSlots b s
      s.setStore { s.store with cleanup := s.store.cleanup.modify 0 (fun c => { c with erased := true }) }
    | .cleanup, false => finishCleanup (scrambleSlots b s)
    | p, true => fullErased b p s
    | _, false => setBlock b (fun e => { e with state := .retired, erasing := false }) (scrambleSlots b s)
  recheckStalled s

end Sys2Proof.Machine
end

