-- ==== Sys2Proof/Machine/ClockCloses.lean ====
section
/-! DEFINITION. The station clock (06): minute closes and what every block does at them, settings of the clock, boundary
marks and TIME requests. -/

namespace Sys2Proof.Machine

/-- What the measuring blocks make of the closing minute m, in this order: the own report is formed (R116), the share is
decided (R121 to R123), the normalisation unit forms the minute's result (R22) and the period unit takes it (R44), the
intake unit clears its accumulators (R17), the own report is written and offered (R117), and the fire-seen flag of the new
minute begins (R115). With no configuration in force no minute value exists and the held values stay (R22). A close with stack
group 0 asks for no share and leaves the last share as it stood (log entry 47). -/
def closeMeasurement (m : MinuteId) (s : State) : State :=
  match s.config? with
  | none => beginFireSeen (s.setIntake (intakeClose s.intake {}))
  | some cfg =>
    let report := ownReport m s.share.fireSeen (cfg.load.bind (channelValue s.intake cfg))
    let share := decideShare s.share s.station m
    let s := if cfg.stackGroup = 0 then s else s.setShare { s.share with lastShare := share }
    let (p, norm) := takePeripherals s.norm s.intake cfg
    let s := takeMinute (minuteResult m s.intake cfg p share) (s.setNorm norm)
    beginFireSeen (shareMinuteClose report (s.setIntake (intakeClose s.intake cfg)))

/-- An interval close (R100): the period unit's, and the MARK of a close by the station's own count in RECORDING (R102). -/
def closeInterval (early : Bool) (closing next : Id) (s : State) : State :=
  let s := periodIntervalClose early next s
  if s.ctrl.state = .recording && !early then offerBroadcast .mark (idBytes closing) s else s

/-- The length of the minute that begins at a close (R99, R111). -/
def nextLength : Option StagedAdjustment → Nat
  | some a => (60 - a.applied).toNat
  | none => 60

/-- The clock after the close of its running minute (R99, R100, R111): the next minute is entered at second 0, a staged
adjustment is used up, and an interval close is remembered. -/
def Clock.close (c : Clock) (t : StationTime) : Clock :=
  { c with
    time := some t.nextMinute, minuteLength := nextLength c.staged, staged := none,
    lastClosed := if t.minute % 30 = 29 then some { id := t.interval, elapsed := 0 } else c.lastClosed }

/-- R111: the CLOCK_ADJUST notice of an adjustment applied. -/
def offerAdjust (staged : Option StagedAdjustment) (s : State) : State :=
  match staged with
  | some a => offerNotice .clockAdjust (beSigned 1 a.applied ++ beSigned 4 a.requested ++ be 1 a.terminal) s
  | none => s

/-- R141, R147: what a day close of the station clock does in the record store. -/
def storeDayClose (year : Nat) (s : State) : State := recheckStalled (advanceIndexYear year s)

/-- A minute close of the station clock (R100), with the interval, day and year closes that follow from it. The order of the
blocks is log entry 14: the clock moves on; R66 step 1; the measuring blocks; the interval close; R66 steps 2 to 4; the
CLOCK_ADJUST notice; the store's day close. -/
def closeMinute (early : Bool) (s : State) : State :=
  match s.clock.time with
  | none => s
  | some t =>
    let staged := s.clock.staged
    let s := copyClosedFlags (s.setClock (s.clock.close t))
    let s := closeMeasurement t.minuteId s
    let s := if t.minute % 30 = 29 then closeInterval early t.interval t.nextMinute.interval s else s
    let s := offerAdjust staged (plantMinuteClose t.nextMinute.year s)
    if t.minute = 1439 then storeDayClose t.nextMinute.year s else s

/-- The running minute reaches its length (R99, R100): the time it still had to run passes, and it closes. While untimed, and
in the last minute of the clock's range, nothing closes. -/
def minuteEnds (s : State) : State :=
  match s.clock.time with
  | none => s
  | some t => if t.atRangeEnd then s else closeMinute false (elapse s.clock.remaining s)

/-- A setting of the clock (R101), with the reports of it to the intake unit (R18), the plant signal unit (R67, R72), the load
share unit (R115) and the record store (R141, R147). -/
def setTime (t : StationTime) (last : Option LastClosed) (s : State) : State :=
  let s := s.setClock { s.clock with time := some t, minuteLength := 60, staged := none, lastClosed := last }
  let s := s.setIntake (intakeRestart s.intake)
  let s := stopUntimedTimer t.year s
  storeDayClose t.year (beginFireSeen s)

/-- A setting in UNTIMED: time acquisition; the station enters RECORDING at the event (R101, R184) and the period unit decides
where recording begins (R40). -/
def acquireTime (t : StationTime) (last : Option LastClosed) (s : State) : State :=
  enterRecordingByTime t (enterState .recording (setTime t last s))

/-- R107: a mark disagreement. -/
def countDisagreement (s : State) : State :=
  s.setClock { s.clock with disagreements := count16 s.clock.disagreements 1 }

/-- The first second of an interval. -/
def Id.startTime (i : Id) : StationTime := { year := i.year, day := i.day, minute := i.index * 30, micros := 0 }

/-- R104: at most 20 s remain of the running interval. -/
def nearEnd (c : Clock) (t : StationTime) : Bool := t.minute % 30 == 29 && c.remaining ≤ 20000000

/-- R104: the interval closed last, no more than 20 s ago. -/
def justClosed (c : Clock) (i : Id) : Bool := c.lastClosed.any (fun l => l.id == i && l.elapsed ≤ 20000000)

/-- R104 to R107: a MARK taken in RECORDING. -/
def decideMark (i : Id) (s : State) : State :=
  match s.clock.time with
  | none => countDisagreement s
  | some t =>
    if !usableMark i then countDisagreement s
    else if i = t.interval then
      if nearEnd s.clock t then closeMinute true s else countDisagreement s
    else if justClosed s.clock i then s
    else countDisagreement s

/-- R103: a MARK that names interval `i`, by the station state. -/
def takeMark (i : Id) (s : State) : State :=
  match s.ctrl.state with
  | .scan | .setup | .failed => s
  | .untimed =>
    if usableMark i then acquireTime i.nextInterval.startTime (some { id := i, elapsed := 0 }) s else s
  | .recording => decideMark i s

/-- R109: the requested difference staged; a difference of 0 discards what waits. -/
def stageTime (terminal : Nat) (target : StationTime) (s : State) : State :=
  match s.clock.time with
  | none => s
  | some t =>
    let difference : Int := (target.wholeSeconds : Int) - t.wholeSeconds
    let staged : Option StagedAdjustment :=
      if difference = 0 then none
      else some { applied := clampTo (-30) 30 difference, requested := (saturate32 difference).1, terminal := terminal }
    s.setClock { s.clock with staged := staged }

/-- R108: a TIME request taken by the clock, and its answer. -/
def takeTime (terminal : Nat) (f : TimeFields) (s : State) : State × AnswerCode :=
  if !targetTimeOk f then (s, .range)
  else
    match s.ctrl.state with
    | .untimed => (acquireTime f.toTime none s, .done)
    | .recording => (stageTime terminal f.toTime s, .done)
    | .setup => (setTime f.toTime none s, .done)
    | .scan | .failed => (s, .state)

end Sys2Proof.Machine
end

