-- ==== Sys2Proof/Machine/Control.lean ====
section
/-! DEFINITION. The station controller (11): CONFIGURE, START and its config write, RESTART, and a configuration coming into
force. -/

namespace Sys2Proof.Machine

/-! Windows that go (R171, R179, R181). -/

/-- The window of a terminal address 12 to 15. -/
def Readout.window (r : Readout) (terminal : Nat) : Option Window := r.windows.getD (terminal - 12) none

/-- A READ that waits keeps the window it was taken for when that window is replaced (R171) or goes at a RESTART (R181), and
also when it goes at a START carried out (R179, R190; log entry 60). -/
def WaitingRead.keepWindow (terminal : Nat) (w : Option Window) (r : WaitingRead) : WaitingRead :=
  if r.terminal = terminal && r.replaced.isNone then { r with replaced := w } else r

/-- A terminal's window replaced by another, or by none. -/
def Readout.setWindow (r : Readout) (terminal : Nat) (w : Option Window) : Readout :=
  { r with windows := r.windows.set (terminal - 12) w,
           waiting := r.waiting.map (fun x => x.keepWindow terminal (r.window terminal)) }

/-- The windows that fail a test made absent. -/
def Readout.keepWindows (keep : Window → Bool) (r : Readout) : Readout :=
  [12, 13, 14, 15].foldl (fun r t => if (r.window t).all keep then r else r.setWindow t none) r

/-! A configuration comes into force (R190). -/

/-- The programmer is programming the head of the mirror intake queue. -/
def Store.programmingMirrorHead (t : Store) : Bool :=
  match t.programmer with
  | some (.programHead .mirror _ _) => true
  | some (.programRecord _ _) => t.relocation.any (fun r => r.area == .mirror)
  | _ => false

/-- R164: queued records of origins no longer partners dropped, uncounted; one being programmed completes. -/
def Store.dropFormerPartners (t : Store) (partners : List Nat) : Store :=
  let keep (q : List SlotImage) : List SlotImage := q.filter (fun r => partners.contains r.origin)
  { t with mirrorQueue :=
      if t.programmingMirrorHead then t.mirrorQueue.take 1 ++ keep (t.mirrorQueue.drop 1) else keep t.mirrorQueue }

/-- R190: a configuration comes into force at every block. -/
def comeIntoForce (f : InForce) (s : State) : State :=
  let s := s.setNorm (reholdAtStart s.config f.image s.norm)
  let s := s.setCtrl { s.ctrl with inForce := some f }
  let s := s.setShare (pruneEntries f.image.stackGroup s.share)
  let s := pruneIndex s
  let s := s.setStore (s.store.dropFormerPartners f.image.partners)
  s.setReadout (s.readout.keepWindows (fun w => w.origin == s.station || f.image.partners.contains w.origin))

/-! CONFIGURE (R185). -/

/-- R185: a CONFIGURE of a part handed to the controller, and its answer. -/
def takeConfigure (part : ConfigurePart) (s : State) : State × AnswerCode :=
  match s.ctrl.state with
  | .setup =>
    if s.ctrl.pendingStart.isSome then (s, .condition)
    else if partInRange s.station part then (s.setCtrl { s.ctrl with edit := applyPart s.ctrl.edit part }, .done)
    else (s, .range)
  | _ => (s, .state)

/-! START (R187 to R189). -/

/-- R150, R197: the configuration sequence one above the current one, or 1 when there is none or after the last. -/
def nextConfigSequence : Option Nat → Nat
  | some n => if n < 4294967295 then n + 1 else 1
  | none => 1

/-- A terminal's deferred answer held or dropped (R168). -/
def setDeferred (terminal : Nat) (d : Option Nat) (s : State) : State :=
  s.setReadout { s.readout with deferred := s.readout.deferred.set (terminal - 12) d }

/-- R188: the START becomes pending, its config write is asked for and its answer deferred. The write's sequence is fixed here,
from the configuration current now, and stays when the write itself erases block 0 (log entry 49). -/
def beginStart (terminal taken : Nat) (s : State) : State :=
  let s := s.setCtrl { s.ctrl with pendingStart := some { terminal := terminal, taken := taken } }
  let s := s.setStore { s.store with
    configWrite := some { image := s.ctrl.edit, sequence := nextConfigSequence s.store.configSequence } }
  setDeferred terminal (some taken) s

/-- R187: a START handed to the controller; no answer yet when it becomes pending. -/
def takeStart (terminal taken : Nat) (s : State) : State × Option AnswerCode :=
  match s.ctrl.state with
  | .setup =>
    if s.ctrl.pendingStart.isSome then (s, some .condition)
    else if startAllowed s.ctrl.edit then (beginStart terminal taken s, none)
    else (s, some .condition)
  | _ => (s, some .state)

/-- The owner of the pending START gives its answer, with the original time of taking (R168, R181). -/
def answerStart (code : AnswerCode) (s : State) : State :=
  match s.ctrl.pendingStart with
  | some p =>
    let s := setDeferred p.terminal none (s.setCtrl { s.ctrl with pendingStart := none })
    offerAnswer .start p.terminal p.taken code s
  | none => s

/-- The pollutant codes of the START notice, 0xFF for an unconfigured component (R189, R197). -/
def pollutantCodes (m : ConfigImage) : List Byte :=
  (List.range 8).map (fun n => match m.components.getD n none with
    | some c => BitVec.ofNat 8 c.pollutant.code
    | none => 0xFF)

/-- R189, steps 3 and 4: the START notice, and the state entered; into RECORDING the period unit waits for the next boundary
(R40). -/
def enterFromSetup (f : InForce) (terminal : Nat) (s : State) : State :=
  let entered : StationState := if s.timed then .recording else .untimed
  let s := offerNotice .start
    (be 4 f.sequence ++ be 1 terminal ++ be 1 entered.code ++ pollutantCodes f.image) s
  let s := enterState entered s
  if entered = .recording then s.setPeriod { s.period with recording := .waiting } else s

/-- R189: the pending START carried out with the image just written. -/
def carryOutStart (w : ConfigWrite) (s : State) : State :=
  match s.ctrl.pendingStart with
  | some p =>
    let f : InForce := { image := w.image, sequence := w.sequence }
    answerStart .done (enterFromSetup f p.terminal (comeIntoForce f s))
  | none => s

/-- R188: a write that ended in FAIL answers the START CONDITION. -/
def refuseStart (s : State) : State := answerStart .condition s

/-- R150: a config slot's program completes. -/
def configComplete (slot : Nat) (pass : Bool) (s : State) : State :=
  match s.store.configWrite with
  | none => s
  | some w =>
    if pass then
      let s := writeSlot 0 slot (.image (makeSlot .config (configData w.sequence s.station w.image))) s
      let s := s.setStore { s.store with
        configSlot := some slot, configNext := slot + 1, configSequence := some w.sequence, configWrite := none }
      carryOutStart w s
    else
      let s := writeSlot 0 slot .void s
      let s := s.setStore { s.store with configNext := slot + 1 }
      if 3 ≤ w.failures + 1 then refuseStart (s.setStore { s.store with configWrite := none })
      else s.setStore { s.store with configWrite := some { w with failures := w.failures + 1 } }

/-- R150: an erase of block 0 completes. After a PASS block 0 holds no configuration; a FAIL ends the write in FAIL and
leaves the block as it was (log entry 28). -/
def configEraseComplete (pass : Bool) (s : State) : State :=
  if pass then
    let s := eraseSlots 0 s
    s.setStore { s.store with configSlot := none, configNext := 0, configSequence := none }
  else refuseStart (s.setStore { s.store with configWrite := none })

/-! RESTART (R191). -/

/-- R191: what a RESTART answered DONE does. -/
def carryOutRestart (terminal : Nat) (s : State) : State :=
  let left := s.ctrl.state
  let interrupted := interruptedId s.period
  let s := interruptPeriod (enterState .setup s)
  let s := offerNotice .restart (be 1 terminal ++ be 1 left.code ++ optionIdBytes interrupted) s
  let s := s.setReadout (s.readout.keepWindows (fun _ => false))
  s.setCtrl { s.ctrl with edit := s.config?.getD s.ctrl.edit }

/-- R191: a RESTART handed to the controller, and its answer. -/
def takeRestart (terminal : Nat) (s : State) : State × AnswerCode :=
  match s.ctrl.state with
  | .untimed | .recording => (carryOutRestart terminal s, .done)
  | .scan | .setup | .failed => (s, .state)

end Sys2Proof.Machine
end

