-- ==== Sys2Proof/Machine/Scan.lean ====
section
/-! DEFINITION. The end of the start-up scan (08, R151 to R153): what the die holds classified and settled, and the four
hand-overs (R61, R62, R79, R166, R193). -/

namespace Sys2Proof.Machine

/-! Classification (R151). -/

/-- The area of a header's area code. -/
def areaOfCode : Nat → Option Area
  | 1 => some .own
  | 2 => some .mirror
  | _ => none

/-- What the scan finds a pool block to be (R151). -/
inductive Found where
  | erased
  | unclean
  | retired (sequence : Nat)
  | area (a : Area) (sequence replaces : Nat)
  deriving DecidableEq, Repr

/-- R151: a pool block classified by its header slot and its slots. -/
def classify (slots : List (Nat × SlotContent)) : Found :=
  match slots with
  | [] => .erased
  | (0, c) :: _ =>
    match c.good? with
    | none => .unclean
    | some h =>
      if h.kind = some .header then
        if field h.data 1 1 = 3 then .retired (field h.data 2 4)
        else
          match areaOfCode (field h.data 1 1) with
          | some a => .area a (field h.data 2 4) (field h.data 6 4)
          | none => .unclean
      else .unclean
  | _ => .unclean

/-- A block as the scan found it, with its programmed slots. -/
structure ScannedBlock where
  number : Nat
  slots : List (Nat × SlotContent)
  found : Found
  deriving DecidableEq, Repr

/-- The pool blocks as the scan finds them. -/
def scanBlocks (die : List (Nat × SlotContent)) : List ScannedBlock :=
  (List.range 255).map (fun n =>
    let slots := blockSlots die (n + 1)
    { number := n + 1, slots := slots, found := classify slots })

/-- The sequence of the header found in a block, whatever its area code; 0 for none (R128). -/
def ScannedBlock.sequence (b : ScannedBlock) : Nat :=
  match b.slots with
  | (0, c) :: _ => ((c.good?.filter (fun h => h.kind == some .header)).map (fun h => field h.data 2 4)).getD 0
  | _ => 0

/-- The sequence of a block of an area, 0 for a block of none. -/
def ScannedBlock.areaSequence (b : ScannedBlock) : Nat :=
  match b.found with
  | .area _ q _ => q
  | _ => 0

/-- The replaces field of a block of an area, 0 for none. -/
def ScannedBlock.replaces (b : ScannedBlock) : Nat :=
  match b.found with
  | .area _ _ r => r
  | _ => 0

/-- R152, step 1: the slot is a COPY_END for a target with this replaces field. -/
def isCopyEnd (replaces slot : Nat) (c : SlotContent) : Bool :=
  match c.good? with
  | some i =>
    i.kind == some .copyEnd && field i.data 1 4 == replaces &&
      (field i.data 5 2 + 1 == slot || (slot == 1023 && field i.data 5 2 == 1023))
  | none => false

/-- R152, step 1: the block is a relocation target that holds its COPY_END. -/
def ScannedBlock.complete (b : ScannedBlock) : Bool :=
  b.replaces != 0 && b.slots.any (fun e => isCopyEnd b.replaces e.1 e.2)

/-- R152, step 2: a target to be erased: it holds no COPY_END, or another complete target of the same source has a higher
sequence. -/
def ScannedBlock.discarded (all : List ScannedBlock) (b : ScannedBlock) : Bool :=
  b.replaces != 0 &&
    (!b.complete ||
      all.any (fun o => o.complete && o.replaces == b.replaces && b.areaSequence < o.areaSequence))

/-- R152, step 1: a source whose complete target is there. -/
def ScannedBlock.superseded (all : List ScannedBlock) (b : ScannedBlock) : Bool :=
  b.areaSequence != 0 && all.any (fun t => t.complete && t.replaces == b.areaSequence)

/-- R152, step 2: a source taken back from a target without COPY_END. -/
def ScannedBlock.takenBack (all : List ScannedBlock) (b : ScannedBlock) : Bool :=
  b.areaSequence != 0 && all.any (fun t => t.replaces == b.areaSequence && !t.complete)

/-- R128: the counter stands one above the highest sequence found in any header, or at 1. -/
def scanCounter (all : List ScannedBlock) : Nat :=
  match (all.map (fun b => b.sequence)).foldl max 0 with
  | 0 => 1
  | n => nextSequence n

/-! Records the scan reads. -/

/-- R153: a record of the OWN area is the station's own, one of the MIRROR area is not; records written under another
strapping are passed over. -/
def ofThisStrapping (station : Nat) (a : Area) (i : SlotImage) : Bool :=
  match a with
  | .own => i.origin == station
  | .mirror => i.origin != station

/-- The slot kinds of records. -/
def isRecordKind (i : SlotImage) : Bool := isBroadcastKind i || i.kind == some .notice

/-- The record in a slot of an area's block, if a reader reads one there: a good slot of a record kind, of this strapping. -/
def readableRecord (station : Nat) (a : Area) (c : SlotContent) : Option SlotImage :=
  c.good?.filter (fun i => isRecordKind i && ofThisStrapping station a i)

/-- A record with its place. -/
structure PlacedRecord where
  block : Nat
  slot : Nat
  record : SlotImage
  deriving DecidableEq, Repr, Inhabited

/-- The readable records of a block, in slot order. -/
def blockRecords (station : Nat) (a : Area) (block : Nat) (slots : List (Nat × SlotContent)) : List PlacedRecord :=
  slots.filterMap (fun e =>
    if e.1 = 0 then none
    else (readableRecord station a e.2).map (fun i => { block := block, slot := e.1, record := i }))

/-- The block table's entry of a scanned block, before the open blocks are decided (R151): a block of an area FULL. The
fill point is the slot after the last programmed one, also where the slots are no unbroken run (log entry 55). -/
def ScannedBlock.entry (station : Nat) (b : ScannedBlock) : BlockEntry :=
  let fill := ((b.slots.getLast?).map (fun e => e.1 + 1)).getD 0
  match b.found with
  | .erased => { state := .erased }
  | .unclean => { state := .retired }
  | .retired q => { state := .retired, sequence := q, fill := fill }
  | .area a q r =>
    let entry : BlockEntry := { state := a.fullState, sequence := q, replaces := r, fill := fill }
    (blockRecords station a b.number b.slots).foldl (fun e p => widen p.record e) entry

/-! Settling (R152). -/

/-- A scan erase of a block: ERASED at PASS, RETIRED at FAIL (R151). So is that of a target (R152, step 2), for which the
manual names no outcome at FAIL (log entry 59). -/
def scanErase (failed : Bool) (b : Nat) (s : State) : State :=
  if failed then setBlock b (fun _ => { state := .retired }) (scrambleSlots b s)
  else setBlock b (fun _ => { state := .erased }) (eraseSlots b s)

/-- A superseded source retired during the scan: erased and given a RETIRED header, or RETIRED without a header (R152,
step 1). -/
def scanRetire (failedErase failedHeader : Bool) (b : Nat) (s : State) : State :=
  if failedErase then setBlock b (fun _ => { state := .retired }) (scrambleSlots b s)
  else
    let q := s.store.sequenceCounter
    let s := takeSequence (eraseSlots b s)
    if failedHeader then setBlock b (fun _ => { state := .retired }) (writeSlot b 0 .void s)
    else
      setBlock b (fun _ => { state := .retired, sequence := q, fill := 1 })
        (writeSlot b 0 (.image (makeSlot .header (headerData 3 q 0))) s)

/-- What the scan does to one block (R151, R152, steps 1 and 2). -/
def settleBlock (all : List ScannedBlock) (failedErases failedHeaders : List Nat) (s : State) (b : ScannedBlock) : State :=
  if b.found = .unclean || b.discarded all then scanErase (failedErases.contains b.number) b.number s
  else if b.superseded all then
    scanRetire (failedErases.contains b.number) (failedHeaders.contains b.number) b.number s
  else s

/-- The block of an area that becomes its OPEN block: of those not full the one with the highest sequence (R152, step 3). -/
def scanOpen (t : Store) (a : Area) : Option Nat :=
  (sortByKey ((t.blocks.zipIdx.filter (fun e => e.1.state == a.fullState && e.1.fill ≤ 1023)).map
    (fun e => (e.1.sequence, e.2)))).getLast?.map (fun e => e.2)

/-- R152, steps 3 and 4: an area's OPEN block, owing a relocation when it was taken back. -/
def openArea (a : Area) (owing : List Nat) (s : State) : State :=
  match scanOpen s.store a with
  | some b => setBlock b (fun e => { e with state := a.openState, owed := owing.contains b }) s
  | none => s

/-- R152, step 6: the erased list in ascending block number. -/
def erasedBlocks (t : Store) : List Nat :=
  (t.blocks.zipIdx.filter (fun e => e.1.state == .erased)).map (fun e => e.2)

/-- The store as the scan settles it (R151, R152). -/
def settleStore (failedErases failedHeaders : List Nat) (s : State) : State :=
  let all := scanBlocks s.store.die
  let s := s.setStore { s.store with
    blocks := { state := .config } :: all.map (fun b => b.entry s.station), sequenceCounter := scanCounter all }
  let s := all.foldl (settleBlock all failedErases failedHeaders) s
  let owing := (all.filter (fun b => b.takenBack all)).map (fun b => b.number)
  let s := openArea .mirror owing (openArea .own owing s)
  s.setStore { s.store with erasedList := erasedBlocks s.store }

/-! The configuration found, the store's condition and the day index (R153). -/

/-- The highest-numbered good config slot among block 0's slots (R150). -/
def currentConfig (slots : List (Nat × SlotContent)) : Option (Nat × SlotImage) :=
  ((slots.filterMap (fun e => (e.2.good?.filter (fun i => i.kind == some .config)).map (fun i => (e.1, i))))).getLast?

/-- R150, R153: the config position; the next slot is the first erased one after the highest that is not erased. -/
def locateConfig (s : State) : State :=
  let slots := blockSlots s.store.die 0
  let found := currentConfig slots
  s.setStore { s.store with
    configSlot := found.map (fun e => e.1),
    configNext := ((slots.getLast?).map (fun e => e.1 + 1)).getD 0,
    configSequence := found.map (fun e => (readConfig e.2.data).1) }

/-- The configuration found: its sequence, station number and image. -/
def foundConfig (s : State) : Option (Nat × Nat × ConfigImage) :=
  (currentConfig (blockSlots s.store.die 0)).map (fun e => readConfig e.2.data)

/-- R193: the configuration the scan brings into force. -/
def configToForce (s : State) : Option InForce :=
  match foundConfig s with
  | some (q, n, m) => if n = s.station && !s.store.failed then some { image := m, sequence := q } else none
  | none => none

/-- R153: the store is FAILED when fewer than 8 pool blocks are other than RETIRED. -/
def judgeStore (s : State) : State :=
  s.setStore { s.store with failed := ((s.store.blocks.drop 1).filter (fun e => e.state != .retired)).length < 8 }

/-- The readable records of an area, in programming order (R153). -/
def areaRecords (a : Area) (s : State) : List PlacedRecord :=
  (s.store.areaBlocks a).flatMap (fun b => blockRecords s.station a b (blockSlots s.store.die b))

/-- The later of two years, where present. -/
def laterYear (y : Option Nat) (i : Id) : Option Nat :=
  match y with
  | some n => some (max n i.year)
  | none => some i.year

/-- The newest year among dated records. -/
def newestYear (l : List PlacedRecord) : Option Nat :=
  (l.filterMap (fun p => p.record.date)).foldl laterYear none

/-- R153: the first record of an origin and day sets the entry. -/
def indexRecord (origins : List Nat) (year : Option Nat) (index : List IndexEntry) (p : PlacedRecord) : List IndexEntry :=
  match p.record.date with
  | some d =>
    if indexedYear year d.year && origins.contains p.record.origin && (indexEntry index p.record.origin d).isNone then
      index ++ [{ origin := p.record.origin, day := d, block := p.block, slot := p.slot }]
    else index
  | none => index

/-- R153: the day index formed for the station itself and the partners of the configuration brought into force. -/
def formIndex (s : State) : State :=
  let records := areaRecords .own s ++ areaRecords .mirror s
  let year := newestYear records
  let origins := s.station :: ((configToForce s).map (fun f => f.image.partners)).getD []
  s.setStore { s.store with indexYear := year, index := records.foldl (indexRecord origins year) [] }

/-! The first hand-over: partner mirroring (R166). -/

/-- The newest of two ids. -/
def newestId (o : Option Id) (i : Id) : Option Id :=
  match o with
  | some n => some (if n.before i then i else n)
  | none => some i

/-- A mirrored record's id taken as the newest of its kind, both last and stored. -/
def OriginEntry.found (e : OriginEntry) (r : SlotImage) : OriginEntry :=
  match r.kind with
  | some .interval => let n := newestId e.lastInterval r.id; { e with lastInterval := n, storedInterval := n }
  | some .day => let n := newestId e.lastDay r.id.toDay; { e with lastDay := n, storedDay := n }
  | some .year1 => let n := newestId e.lastYear1 (yearId r.id.year); { e with lastYear1 := n, storedYear1 := n }
  | some .year2 => let n := newestId e.lastYear2 (yearId r.id.year); { e with lastYear2 := n, storedYear2 := n }
  | _ => e

/-- R166: the newest mirrored ids handed to partner mirroring. -/
def handOverMirror (s : State) : State :=
  s.setMirror { s.mirror with
    origins := (areaRecords .mirror s).foldl
      (fun o p => updateAt o (p.record.origin - 1) (fun e => e.found p.record)) s.mirror.origins }

/-! The second hand-over: the period unit (R61, R62). -/

/-- The records among these of a slot kind. -/
def ofKind (k : SlotKind) (l : List SlotImage) : List SlotImage := l.filter (fun r => r.kind == some k)

/-- The records among these dated in a year. -/
def ofYear (year : Nat) (l : List SlotImage) : List SlotImage :=
  l.filter (fun r => r.date.any (fun d => d.year == year))

/-- R61: the summary year: the year of the newest dated record of kind interval, day or notice, or the year after it when a
YEAR part of it is present. -/
def rebuiltYear (own : List SlotImage) : Option Nat × Bool :=
  let dated := (ofKind .interval own ++ ofKind .day own ++ ofKind .notice own).filterMap (fun r => r.date)
  match dated.foldl laterYear none with
  | none => (none, true)
  | some y =>
    if (ofKind .year1 own ++ ofKind .year2 own).any (fun r => r.id.year == y) then (some (y + 1), true)
    else (some y, false)

/-- R61: what an own notice of the summary year adds. -/
def YearSummary.addNotice (year : Nat) (y : YearSummary) (r : SlotImage) : YearSummary :=
  if r.noticeCode = NoticeCode.abnBegin.code then { y with episodes := y.episodes + 1 }
  else if r.noticeCode = NoticeCode.cutoff.code then { y with cutoffs := y.cutoffs + 1 }
  else if r.noticeCode = NoticeCode.gap.code then
    let first := readId r.noticeParams 0
    let last := readId r.noticeParams 4
    { y with gapIntervals := y.gapIntervals + gapIntervalsInYear first.previousInterval last.nextInterval year }
  else y

/-- R61: what an own record of the summary year adds. -/
def YearSummary.addRecord (year : Nat) (y : YearSummary) (r : SlotImage) : YearSummary :=
  match r.kind with
  | some .interval => y.addInterval (readInterval r.data)
  | some .day => y.addDay (readDayEntries r.data)
  | some .notice => y.addNotice year r
  | _ => y

/-- R61: the summary rebuilt. -/
def rebuildSummary (own : List SlotImage) : Option Nat × YearSummary :=
  match rebuiltYear own with
  | (none, _) => (none, {})
  | (some y, true) => (some y, {})
  | (some y, false) => (some y, (ofYear y own).foldl (fun t r => t.addRecord y r) {})

/-- The newest own interval id (R61). -/
def newestInterval (own : List SlotImage) : Option Id := ((ofKind .interval own).map (fun r => r.id)).foldl newestId none

/-- R62: the open day rebuilt from the newest own interval record's day, when no day record exists for it. Of the records
handed over (R153), so that an older interval record forms no open day (log entry 41). -/
def rebuildDay (own : List SlotImage) : Option OpenDay :=
  match newestInterval own with
  | none => none
  | some i =>
    if (ofKind .day own).any (fun r => r.id.toDay == i.toDay) then none
    else some (((ofKind .interval own).filter (fun r => r.id.toDay == i.toDay)).foldl
      (fun d r => d.add (readInterval r.data)) { day := i.toDay })

/-- R61, R62: the period unit rebuilt from the newest own interval id found and the own records of the two newest years
(R153). -/
def handOverPeriod (newest : Option Id) (own : List SlotImage) (s : State) : State :=
  let (year, summary) := rebuildSummary own
  s.setPeriod { s.period with
    lastOwn := newest, summaryYear := year, summary := summary, openDay := rebuildDay own }

/-! The third hand-over: the plant signal unit (R79). -/

/-- The newest year before another among dated records. -/
def yearBefore (y : Nat) (own : List SlotImage) : Option Nat :=
  ((own.filterMap (fun r => r.date)).filter (fun d => d.year < y)).foldl laterYear none

/-- R153: the own records of the two newest years found, in programming order, with the notices that carry no time (log
entry 16). -/
def recordsOfTwoYears (own : List SlotImage) : List SlotImage :=
  match (own.filterMap (fun r => r.date)).foldl laterYear none with
  | none => own
  | some y =>
    own.filter (fun r => match r.date with
      | some d => d.year == y || yearBefore y own == some d.year
      | none => true)

/-- A notice of a code. -/
def isNotice (c : NoticeCode) (r : SlotImage) : Bool := r.kind == some .notice && r.noticeCode == c.code

/-- R79, step 1: the latch and the continuous count, from the last of the CUTOFF and RELEASE notices. -/
def restoreLatch (own : List SlotImage) : AbnormalMachine × Nat :=
  match (own.filter (fun r => isNotice .cutoff r || isNotice .release r)).getLast? with
  | some r =>
    if isNotice .cutoff r then (.cutoff (cutoffCauseOf (field r.noticeParams 0 1)), field r.noticeParams 1 2)
    else (.normal, 0)
  | none => (.normal, 0)

/-- The records after the last ABN_BEGIN, that notice first; none without one. -/
def sinceLastBegin : List SlotImage → Option (List SlotImage)
  | [] => none
  | r :: rest =>
    match sinceLastBegin rest with
    | some l => some l
    | none => if isNotice .abnBegin r then some (r :: rest) else none

/-- R79, step 3: the minutes of an open episode: the carried minutes of the last ABN_BEGIN and the abnormal minutes of every
own interval record after it, when no ABN_END comes after it. Of two ABN_BEGIN with no ABN_END after either only the last is
the open episode, and one ABN_END closes it (log entry 43). -/
def openEpisode (own : List SlotImage) : Option Nat :=
  match sinceLastBegin own with
  | some (b :: rest) =>
    if rest.any (isNotice .abnEnd) then none
    else some (min (field b.noticeParams 1 2
      + ((ofKind .interval rest).map (fun r => (readInterval r.data).abnormal)).sum) 65535)
  | _ => none

/-- R79, step 4: the levels, with the machine restored. -/
def restoreLevels (carried : Nat) (s : State) : State :=
  match s.plant.machine with
  | .normal =>
    if s.plant.trip then enterCutoff .trip s
    else if s.plant.clean && s.plant.fire then enterAbnormal .resumed carried s
    else s
  | _ => s

/-- R79, R153: whether the scan hands the plant signal unit anything: an own notice or an own interval record. -/
def handedToPlant (own : List SlotImage) : Bool := own.any (fun r => r.kind == some .notice || r.kind == some .interval)

/-- R79: the plant signal unit restored. With the store FAILED and nothing handed over the machine is NORMAL, whatever the
levels; with records handed over it is restored in all four steps then too (log entry 57). -/
def handOverPlant (own : List SlotImage) (s : State) : State :=
  let (machine, continuous) := restoreLatch own
  let s := setMachine machine (s.setPlant { s.plant with
    continuous := continuous, countYear := s.period.summaryYear,
    yearCount := match s.period.summaryYear with
      | some _ => count16 0 s.period.summary.abnormal
      | none => 0 })
  match openEpisode own with
  | some minutes => restoreLevels minutes (offerAbnEnd .reset minutes s)
  | none => if s.store.failed && !handedToPlant own then s else restoreLevels 0 s

/-! The fourth hand-over: the station controller (R193). -/

/-- R186: the edit image at the end of the scan. With the store FAILED it is fresh, also when the configuration found carries
another station number (log entry 61). -/
def scanEdit (s : State) : ConfigImage :=
  match configToForce s, foundConfig s with
  | some f, _ => f.image
  | none, some (_, _, m) => if s.store.failed then {} else { m with partners := [] }
  | none, none => {}

/-- R184, R193: the station leaves SCAN. -/
def handOverController (s : State) : State :=
  let s' := s.setCtrl { s.ctrl with edit := scanEdit s }
  if s.store.failed then enterState .failed s'
  else
    match configToForce s with
    | some f => startUntimedTimer (enterState .untimed (comeIntoForce f s'))
    | none => startUntimedTimer (enterState .setup s')

/-- R153: the end of the scan. Outside SCAN no scan runs. -/
def scanEnds (failedErases failedHeaders : List Nat) (s : State) : State :=
  if s.ctrl.state = .scan then
    let s := formIndex (judgeStore (locateConfig (settleStore failedErases failedHeaders s)))
    let own := (areaRecords .own s).map (fun p => p.record)
    let handed := recordsOfTwoYears own
    handOverController (handOverPlant handed (handOverPeriod (newestInterval own) handed (handOverMirror s)))
  else s

end Sys2Proof.Machine
end

