-- ==== Sys2Proof/Machine/Lookup.lean ====
section
/-! DEFINITION. Lookups of the record store (08, R146 and R149) and the notices of a day (10, R177). -/

namespace Sys2Proof.Machine

/-- The area that holds an origin's records. -/
def areaOfOrigin (station origin : Nat) : Area := if origin = station then .own else .mirror

/-- R149, step 1: the queue searched for an origin. -/
def queueOfOrigin (s : State) (origin : Nat) : List SlotImage := s.store.queue (areaOfOrigin s.station origin)

/-- R146: from its PASS until COPY_END is programmed the relocated record stands in the target: the target and the record's
slot, read in the place of the source's slot of that number. -/
def relocatedSlot (t : Store) (block : Nat) : Option (Nat × Nat) :=
  match t.relocation with
  | some r =>
    if r.source = block && r.phase == .copyEnd && r.recordSlot < 1023 then r.target.map (fun b => (b, r.recordSlot)) else none
  | none => none

/-- The programmed slots of a block as a lookup reads them (R146, R149). -/
def lookupSlots (t : Store) (block : Nat) : List (Nat × SlotContent) :=
  let slots := blockSlots t.die block
  match relocatedSlot t block with
  | none => slots
  | some (target, n) =>
    match dieRead t.die (slotAddress target n) with
    | some c => slots.filter (fun e => e.1 < n) ++ (n, c) :: slots.filter (fun e => n < e.1)
    | none => slots

/-- The readable records of a block for a lookup; a block with the erasing mark is not read (R139, R149). -/
def lookupRecords (s : State) (a : Area) (block : Nat) : List PlacedRecord :=
  if (s.block block).erasing then [] else blockRecords s.station a block (lookupSlots s.store block)

/-- Every readable record of an area in programming order. -/
def areaWalk (s : State) (a : Area) : List PlacedRecord := (s.store.areaBlocks a).flatMap (lookupRecords s a)

/-- Where the reading from a day-index entry starts: an entry the relocated record set in the target is read there, in the
place of the source's slot of that number (R146). -/
def entryPlace (t : Store) (e : IndexEntry) : Nat × Nat :=
  match t.relocation with
  | some r => if r.target = some e.block && r.phase == .copyEnd then (r.source, e.slot) else (e.block, e.slot)
  | none => (e.block, e.slot)

/-- R149, step 2: the reading forward from a day-index entry: the rest of its block, then the area's later blocks. -/
def walkFrom (s : State) (a : Area) (e : IndexEntry) : List PlacedRecord :=
  let (block, slot) := entryPlace s.store e
  match (s.store.areaBlocks a).dropWhile (fun b => b != block) with
  | [] => []
  | b :: rest => (lookupRecords s a b).filter (fun p => slot ≤ p.slot) ++ rest.flatMap (lookupRecords s a)

/-- The day under which a record of a kind and id is indexed (R129). -/
def indexDay (k : SlotKind) (i : Id) : Id :=
  match k with
  | .year1 | .year2 => dayId i.year (daysInYear i.year)
  | _ => i.toDay

/-- The record sought: its kind, origin and id agree. -/
def isSought (origin : Nat) (k : SlotKind) (i : Id) (r : SlotImage) : Bool :=
  r.kind == some k && r.origin == origin &&
    match k with
    | .interval => r.id == i
    | .day => r.id.toDay == i.toDay
    | _ => r.id.year == i.year

/-- R149, step 4: a good record of the origin dated after the day sought. -/
def isBeyond (origin : Nat) (day : Id) (r : SlotImage) : Bool :=
  r.origin == origin && r.date.any (fun d => day.before d)

/-- R149: a lookup: PENDING from a queue, STORED from the die, or none for absent. -/
def lookup (s : State) (origin : Nat) (k : SlotKind) (i : Id) : Option (ItemClass × SlotImage) :=
  match (queueOfOrigin s origin).find? (isSought origin k i) with
  | some r => some (.pending, r)
  | none =>
    let day := indexDay k i
    match indexEntry s.store.index origin day with
    | none => none
    | some e =>
      match (walkFrom s (areaOfOrigin s.station origin) e).find?
          (fun p => isSought origin k i p.record || isBeyond origin day p.record) with
      | some p => if isSought origin k i p.record then some (.stored, p.record) else none
      | none => none

/-- Whether a lookup reads a slot of the die (R149, steps 1 and 2): neither queue holds the record and its day has an
entry. -/
def lookupReads (s : State) (origin : Nat) (k : SlotKind) (i : Id) : Bool :=
  ((queueOfOrigin s origin).find? (isSought origin k i)).isNone && (indexEntry s.store.index origin (indexDay k i)).isSome

/-! The notices of a day (R177). -/

/-- Records, each with the day it belongs to: its own date, or for an undated one the date of the dated own record before
it. -/
def withDays (last : Option Id) : List PlacedRecord → List (PlacedRecord × Option Id)
  | [] => []
  | p :: rest =>
    match p.record.date with
    | some d => (p, some d) :: withDays (some d) rest
    | none => (p, last) :: withDays last rest

/-- The records of a list from a place on. -/
def fromPlace (block slot : Nat) (blocks : List Nat) (l : List (PlacedRecord × Option Id)) : List (PlacedRecord × Option Id) :=
  let reached := blocks.dropWhile (fun b => b != block)
  l.filter (fun e => reached.contains e.1.block && (e.1.block != block || slot ≤ e.1.slot))

/-- R177: the stored notices of a day, in the order of their programming. -/
def storedNotices (s : State) (day : Id) : List SlotImage :=
  match indexEntry s.store.index s.station day with
  | none => []
  | some e =>
    let (block, slot) := entryPlace s.store e
    let walked := fromPlace block slot (s.store.areaBlocks .own) (withDays none (areaWalk s .own))
    let met := walked.takeWhile (fun e => !isBeyond s.station day e.1.record)
    (met.filter (fun e => e.1.record.kind == some .notice && e.2 == some day)).map (fun e => e.1.record)

/-- R177: the notices of a day waiting in the own record queue. -/
def waitingNotices (s : State) (day : Id) : List SlotImage :=
  s.store.ownQueue.filter (fun r => r.kind == some .notice && r.date == some day)

/-- R177: the notices of a day with their class, in a direction. -/
def dayNotices (s : State) (direction : WindowDirection) (day : Id) : List (ItemClass × SlotImage) :=
  let l := (storedNotices s day).map (fun r => (ItemClass.stored, r))
    ++ (waitingNotices s day).map (fun r => (ItemClass.pending, r))
  match direction with
  | .forward => l
  | .backward => l.reverse

end Sys2Proof.Machine
end

