-- ==== Sys2Proof/Machine/Mirroring.lean ====
section
/-! DEFINITION. Partner mirroring (09), the receiving side: the checks of a RESULT, the gap count, and the offer to the mirror
intake queue. -/

namespace Sys2Proof.Machine

/-- The id a record is compared under: its interval id, its day id, or for a YEAR part the year (09, opening). -/
def mirrorId (i : SlotImage) : Id :=
  match i.kind with
  | some .year1 | some .year2 => yearId i.id.year
  | some .day => i.id.toDay
  | _ => i.id

/-- The last id of a record's kind. -/
def OriginEntry.lastOf (e : OriginEntry) (k : Option SlotKind) : Option Id :=
  match k with
  | some .interval => e.lastInterval
  | some .day => e.lastDay
  | some .year1 => e.lastYear1
  | some .year2 => e.lastYear2
  | _ => none

/-- The last id of a record's kind replaced. -/
def OriginEntry.setLast (e : OriginEntry) (k : Option SlotKind) (i : Id) : OriginEntry :=
  match k with
  | some .interval => { e with lastInterval := some i }
  | some .day => { e with lastDay := some i }
  | some .year1 => { e with lastYear1 := some i }
  | some .year2 => { e with lastYear2 := some i }
  | _ => e

/-- R161: the number of ids strictly between the last id and a later one; YEAR parts are not checked. -/
def skipped (k : Option SlotKind) (last i : Id) : Nat :=
  match k with
  | some .interval => intervalNumber i - intervalNumber last - 1
  | some .day => dayNumber i.year i.day - dayNumber last.year last.day - 1
  | _ => 0

/-- The origin entry of a station number. -/
def Mirror.origin (m : Mirror) (station : Nat) : OriginEntry := m.origins.getD (station - 1) {}

/-- R161: the origin entry after a RESULT that passed R160. -/
def OriginEntry.advance (e : OriginEntry) (k : Option SlotKind) (i : Id) : OriginEntry :=
  let gap := match e.lastOf k with
    | some l => skipped k l i
    | none => 0
  { e.setLast k i with gap := count16 e.gap gap }

/-- R160: the record is after the last id of its kind, or there is none. -/
def newRecord (e : OriginEntry) (k : Option SlotKind) (i : Id) : Bool :=
  match e.lastOf k with
  | some l => l.before i
  | none => true

/-- R162: the record offered to the mirror intake queue. -/
def offerMirror (r : SlotImage) (s : State) : State :=
  if s.store.mirrorStalled || 8 ≤ s.store.mirrorQueue.length then dropMirror s r
  else s.setStore { s.store with mirrorQueue := s.store.mirrorQueue ++ [r] }

/-- R158 to R162: a RESULT handed over. -/
def takeResult (sender : Nat) (r : SlotImage) (s : State) : State :=
  if s.ctrl.state = .scan then s
  else if !resultContentOk sender r then s
  else if !s.config.partners.contains sender then s
  else
    let e := s.mirror.origin sender
    if !newRecord e r.kind (mirrorId r) then s
    else
      offerMirror r (s.setMirror { s.mirror with
        origins := updateAt s.mirror.origins (sender - 1) (fun e => e.advance r.kind (mirrorId r)) })

end Sys2Proof.Machine
end

