-- ==== Sys2Proof/Machine/Readout.lean ====
section
/-! DEFINITION. The readout unit (10): requests by station state, the status reply, windows, the pages of a READ, and the
handing over of action requests. -/

namespace Sys2Proof.Machine

/-- R167: the answer a request is given by its station state alone; none when it is served or handed on. -/
def stateAnswer (k : FrameKind) (st : StationState) : Option AnswerCode :=
  match st, k with
  | .scan, .window | .scan, .read | .scan, .release => some .busy
  | .scan, .time | .scan, .configure | .scan, .start | .scan, .restart => some .state
  | .failed, .statusReq => none
  | .failed, _ => some .state
  | _, _ => none

/-- A request taken in a state that answers it, or dealt with by `serve` (R167, R168). -/
def gate (k : FrameKind) (terminal : Nat) (serve : State → State) (s : State) : State :=
  match stateAnswer k s.ctrl.state with
  | some code => offerAnswer k terminal s.now code s
  | none => serve s

/-- A request its owner answers at once (R180, R181). -/
def answerWith (k : FrameKind) (terminal taken : Nat) (r : State × AnswerCode) : State :=
  offerAnswer k terminal taken r.2 r.1

/-! Status (R169, R197). -/

/-- The code of a status section. -/
def StatusSection.code : StatusSection → Nat
  | .general => 0 | .counts => 1 | .sharing => 2 | .mirroring => 3

/-- The common part of a status reply: 15 bytes. In SCAN the recording state is absent. -/
def statusCommon (sec : StatusSection) (s : State) : List Byte :=
  [0x4A, 0x26, 0x30, 0x01] ++ be 1 s.station ++ be 1 s.ctrl.state.code ++ be 1 sec.code ++ timeBytes s.clock.time
    ++ be 1 (if s.ctrl.state = .scan then 255 else s.period.recording.code) ++ be 1 s.plant.machine.code

/-- The cutoff cause held, 0 when none is. -/
def causeByte : AbnormalMachine → Nat
  | .cutoff c => c.toCause.code
  | _ => 0

/-- The staged adjustment in 7 bytes, all zero when none waits. -/
def stagedBytes : Option StagedAdjustment → List Byte
  | some a => be 1 1 ++ beSigned 1 a.applied ++ beSigned 4 a.requested ++ be 1 a.terminal
  | none => List.replicate 7 0

/-- The configuration sequence shown: that of the configuration in force (R186), else the store's (R154), else a free value
(log entries 11 and 18). -/
def sequenceBytes (s : State) : List Byte :=
  match s.ctrl.inForce, s.store.configSequence with
  | some f, _ => be 4 f.sequence
  | none, some q => be 4 q
  | none, none => be 4 Config.noConfigSequence.toNat

/-- The fields of section GENERAL. -/
def generalBytes (s : State) : List Byte :=
  let t := s.store
  be 1 (causeByte s.plant.machine) ++ be 1 (linesByte s.plant) ++ be 1 (bit s.timed) ++ be 1 s.clock.minuteLength
    ++ stagedBytes s.clock.staged ++ optionIdBytes (if s.ctrl.state = .scan then none else s.period.lastOwn)
    ++ sequenceBytes s ++ be 1 t.erasedList.length ++ be 1 (t.erasedList.length + candidateCount s)
    ++ be 1 (t.blocks.filter (fun e => e.state == .retired)).length ++ be 1 (bit t.ownStalled) ++ be 1 (bit t.mirrorStalled)
    ++ be 1 (bit t.relocation.isSome) ++ be 1 t.ownQueue.length ++ be 1 t.mirrorQueue.length
    ++ be 1 s.link.queue.length ++ be 1 (bit s.link.linkFault)

/-- The fields of section COUNTS. -/
def countsBytes (s : State) : List Byte :=
  let i := s.intake
  let l := s.link
  be 2 i.frameErrors ++ be 2 i.crowdedMinutes ++ be 2 i.overflowMinutes ++ be 2 i.faultMinutes
    ++ be 2 l.receiveErrors ++ be 2 l.transmitErrors ++ be 2 l.resultMisses ++ be 2 l.expiredFrames ++ be 2 l.addressClashes
    ++ be 2 s.clock.disagreements ++ be 2 s.store.ownLosses ++ be 2 s.store.relocations
    ++ be 2 s.plant.continuous ++ be 2 s.plant.yearCount
    ++ be 1 (match s.plant.countYear with
      | some y => y - 2000
      | none => 255)

/-- A load share entry in 11 bytes; the fields of one not present are free values (log entry 11). -/
def shareEntryBytes : Option ShareEntry → List Byte
  | some e => be 1 1 ++ be 1 e.group ++ minuteIdBytes e.latest.minute ++ be 3 e.latest.load ++ be 1 e.latest.status.code
  | none => be 1 0 ++ List.ofFn Config.absentShareEntryByte

/-- The last share in 9 bytes; the fields of an invalid one are free values (log entry 11). -/
def shareBytes : Option Share → List Byte
  | some x => be 1 1 ++ be 1 (bit x.substituted) ++ be 3 x.own ++ be 4 x.total
  | none => be 1 0 ++ List.ofFn Config.invalidShareByte

/-- The fields of section SHARING. -/
def sharingBytes (s : State) : List Byte :=
  (s.share.entries.map shareEntryBytes).flatten ++ shareBytes s.share.lastShare

/-- A partner's fields of section MIRRORING (R165; log entry 19). -/
def partnerBytes (s : State) (p : Nat) : List Byte :=
  let e := s.mirror.origin p
  be 1 p ++ be 2 e.gap ++ optionIdBytes e.lastInterval ++ optionIdBytes e.lastDay ++ optionIdBytes e.storedInterval
    ++ optionIdBytes e.storedDay

/-- The fields of a section. Section MIRRORING lists the partners in the order of the configuration's partner fields (log
entry 19). -/
def sectionBytes (sec : StatusSection) (s : State) : List Byte :=
  match sec with
  | .general => generalBytes s
  | .counts => countsBytes s
  | .sharing => sharingBytes s
  | .mirroring => (s.config.partners.map (partnerBytes s)).flatten

/-- The payload of a STATUS_REPLY. -/
def statusPayload (sec : StatusSection) (s : State) : List Byte := statusCommon sec s ++ sectionBytes sec s

/-- R169: a STATUS_REQ served in every state. -/
def takeStatus (terminal : Nat) (payload : List Byte) (s : State) : State :=
  match statusSection payload with
  | some sec => offerReply .statusReply terminal s.now (statusPayload sec s) s
  | none => offerAnswer .statusReq terminal s.now .range s

/-! Windows (R170, R171). -/

/-- R170, check 6: the newest readout year. -/
def readoutYear (s : State) : Option Nat :=
  match s.clock.time with
  | some t => some t.year
  | none => s.store.indexYear

/-- R170: the six checks of a WINDOW, in order. -/
def windowAnswer (f : WindowFields) (s : State) : AnswerCode :=
  if !(realWindowId f.kind f.first && realWindowId f.kind f.last) then .range
  else if f.last.before f.first then .range
  else if (f.kind == .interval || f.kind == .day) &&
      !(1 ≤ f.firstComponent && f.firstComponent ≤ f.lastComponent && f.lastComponent ≤ 8) then .range
  else if !(f.origin == s.station || s.config.partners.contains f.origin) then .range
  else if f.kind == .notice && f.origin != s.station then .range
  else
    match readoutYear s with
    | some y =>
      if (f.first.year == y || f.first.year + 1 == y) && (f.last.year == y || f.last.year + 1 == y) then .done else .range
    | none => .condition

/-- The second part of a cursor at a window's start: the first component, the first notice position, or part 1. -/
def startSub (k : WindowKind) (firstComponent : Nat) : Nat :=
  match k with
  | .interval | .day => firstComponent
  | .notice => 0
  | .year => 1

/-- The first id of a direction (R171, R172). -/
def startId (d : WindowDirection) (first last : Id) : Id :=
  match d with
  | .forward => first
  | .backward => last

/-- The window's start (R171). -/
def Window.start (w : Window) : Cursor :=
  { id := startId w.direction w.first w.last, sub := startSub w.kind w.firstComponent }

/-- The window a WINDOW asks for (R171). -/
def newWindow (f : WindowFields) (serial : Nat) : Window :=
  { origin := f.origin, kind := f.kind, first := f.first, last := f.last, firstComponent := f.firstComponent,
    lastComponent := f.lastComponent, order := f.order, direction := f.direction,
    cursor := { id := startId f.direction f.first f.last, sub := startSub f.kind f.firstComponent }, serial := serial }

/-- R170, R171: a WINDOW taken, and its answer. -/
def takeWindow (terminal : Nat) (payload : List Byte) (s : State) : State × AnswerCode :=
  match windowFields payload with
  | none => (s, .range)
  | some f =>
    match windowAnswer f s with
    | .done =>
      let r := s.readout.setWindow terminal (some (newWindow f s.readout.serial))
      (s.setReadout { r with serial := r.serial + 1 }, .done)
    | code => (s, code)

/-! Ids and cursors of a window (R172). -/

/-- The id after another of a window kind. -/
def idAfter (k : WindowKind) (i : Id) : Id :=
  match k with
  | .interval => i.nextInterval
  | .day | .notice => i.nextDayId
  | .year => yearId (i.year + 1)

/-- The id before another of a window kind. -/
def idBefore (k : WindowKind) (i : Id) : Id :=
  match k with
  | .interval => i.previousInterval
  | .day | .notice => i.previousDayId
  | .year => yearId (i.year - 1)

/-- The next id in the window's direction, none at its end (R172). -/
def Window.nextId (w : Window) (i : Id) : Option Id :=
  match w.direction with
  | .forward => if i = w.last then none else some (idAfter w.kind i)
  | .backward => if i = w.first then none else some (idBefore w.kind i)

/-- The number of ids of a window's range. -/
def Window.idCount (w : Window) : Nat :=
  match w.kind with
  | .interval => intervalNumber w.last + 1 - intervalNumber w.first
  | .day | .notice => dayNumber w.last.year w.last.day + 1 - dayNumber w.first.year w.first.day
  | .year => w.last.year + 1 - w.first.year

/-- `n` ids from one on, in id order. -/
def idsFrom (k : WindowKind) : Nat → Id → List Id
  | 0, _ => []
  | n + 1, i => i :: idsFrom k n (idAfter k i)

/-- The ids of a window's range. -/
def Window.ids (w : Window) : List Id := idsFrom w.kind w.idCount w.first

/-- R172: the successor of a coordinate of an INTERVAL or DAY window; none at the wrap. -/
def Window.successor (w : Window) (c : Cursor) : Option Cursor :=
  match w.order with
  | .recordMajor =>
    if c.sub < w.lastComponent then some { c with sub := c.sub + 1 }
    else (w.nextId c.id).map (fun i => { id := i, sub := w.firstComponent })
  | .componentMajor =>
    match w.nextId c.id with
    | some i => some { c with id := i }
    | none => if c.sub < w.lastComponent then some { id := w.start.id, sub := c.sub + 1 } else none

/-- Up to `n` coordinates from a cursor on, and the cursor after them; none when the window wraps (R172, R174). -/
def Window.coordinates (w : Window) : Nat → Cursor → List Cursor × Option Cursor
  | 0, c => ([], some c)
  | n + 1, c =>
    match w.successor c with
    | none => ([c], none)
    | some c' =>
      let (l, after) := w.coordinates n c'
      (c :: l, after)

/-! Items (R175, R176, R178). -/

/-- The class and component byte of an item. -/
def classByte (c : ItemClass) (component : Nat) : Byte := BitVec.ofNat 8 (c.code * 16 + component)

/-- An item with every other field 0: absent, or of an unconfigured component (R175). For a DAY item the fourth byte of the
id is the not-valid count. -/
def bareItem (k : WindowKind) (i : Id) (component : Nat) (c : ItemClass) : List Byte :=
  (if k = .day then (idBytes i).take 3 ++ [0] else idBytes i) ++ [classByte c component] ++ List.replicate 15 0

/-- An INTERVAL item of a record or view (R176, R197). -/
def intervalItem (i : Id) (component : Nat) (c : ItemClass) (fate : Fate) (e : IntervalEntry) : List Byte :=
  idBytes i ++ [classByte c component] ++ be 1 fate.code ++ be 1 (statusFlagsByte e.status.code e.flags) ++ be 1 e.valid
    ++ beSigned 4 e.mean ++ be 4 e.validated ++ be 4 e.mass

/-- A DAY item of a record (R176, R197). -/
def dayItem (i : Id) (component : Nat) (c : ItemClass) (e : DayEntry) : List Byte :=
  (idBytes i).take 3 ++ be 1 e.notValid ++ [classByte c component] ++ be 1 e.counted
    ++ be 1 (statusFlagsByte e.status.code e.flags) ++ be 1 e.valid ++ be 4 e.mean ++ be 4 e.mean ++ be 4 e.mass

/-- The slot kind of an INTERVAL or DAY window's records. -/
def recordKind (k : WindowKind) : SlotKind := if k = .day then .day else .interval

/-- R175, step 1: the provisional view stands for this id of the window. -/
def isProvisional (s : State) (view : Option IntervalRecord) (w : Window) (i : Id) : Bool :=
  w.origin == s.station && w.kind == .interval && view.any (fun v => v.id == i)

/-- R175: the item of a coordinate of an INTERVAL or DAY window. -/
def resolveItem (s : State) (view : Option IntervalRecord) (w : Window) (c : Cursor) : List Byte :=
  let place := c.sub - 1
  if isProvisional s view w c.id then
    match view.bind (fun v => (v.components.getD place none).map (fun e => (v.fate, e))) with
    | some (fate, e) => intervalItem c.id c.sub .provisional fate e
    | none => bareItem w.kind c.id c.sub .absent
  else
    match lookup s w.origin (recordKind w.kind) c.id with
    | none => bareItem w.kind c.id c.sub .absent
    | some (cls, r) =>
      if w.kind = .day then
        match readDayEntry r.data place with
        | some e => dayItem c.id c.sub cls e
        | none => bareItem w.kind c.id c.sub cls
      else
        match readIntervalEntry r.data place with
        | some e => intervalItem c.id c.sub cls (readInterval r.data).fate e
        | none => bareItem w.kind c.id c.sub cls

/-- R173: every item of this id would be ABSENT (log entry 22). -/
def absentId (s : State) (view : Option IntervalRecord) (w : Window) (i : Id) : Bool :=
  if isProvisional s view w i then
    view.all (fun v => (List.range 8).all (fun n =>
      n + 1 < w.firstComponent || w.lastComponent < n + 1 || (v.components.getD n none).isNone))
  else (lookup s w.origin (recordKind w.kind) i).isNone

/-- The slot kind of a YEAR part. -/
def partKind (part : Nat) : SlotKind := if part = 1 then .year1 else .year2

/-- R178: the items of a YEAR part, with the station totals of part 1: zero for part 2, and zero where part 1 is ABSENT (log
entry 22). -/
def yearPage (s : State) (origin : Nat) (c : Cursor) : List Byte :=
  let found := lookup s origin (partKind c.sub) c.id
  let totals := match found with
    | some (_, r) => if c.sub = 1 then (r.data.drop 16).take 18 else List.replicate 18 0
    | none => List.replicate 18 0
  let item (n : Nat) : List Byte :=
    let component := 4 * (c.sub - 1) + n + 1
    match found with
    | some (cls, r) => [classByte cls component] ++ (r.data.drop ((if c.sub = 1 then 34 else 16) + 18 * n)).take 18 ++ [0]
    | none => [classByte .absent component] ++ List.replicate 19 0
  idBytes c.id ++ be 1 c.sub ++ totals ++ ((List.range 4).map item).flatten

/-- A NOTICE item: the notice's bytes 0 to 25, its class, a zero byte (R197). -/
def noticeItem (e : ItemClass × SlotImage) : List Byte := e.2.data.take 26 ++ be 1 e.1.code ++ [0]

/-- Up to `n` notices of a window from a cursor on, each with the cursor past it (R177). A position past the day's notices
moves to the next day; `days` bounds how many days may be looked at. -/
def noticesFrom (s : State) (w : Window) : Nat → Nat → Cursor → List ((ItemClass × SlotImage) × Cursor)
  | 0, _, _ => []
  | days + 1, n, c =>
    let here := ((dayNotices s w.direction c.id).zipIdx.drop c.sub).map (fun e => (e.1, { c with sub := e.2 + 1 }))
    if n ≤ here.length then here.take n
    else
      match w.nextId c.id with
      | none => here
      | some i => here ++ noticesFrom s w days (n - here.length) { id := i, sub := 0 }

/-- The days looked at to find up to `n` notices from a cursor on. -/
def noticeDays (s : State) (w : Window) : Nat → Nat → Cursor → List Id
  | 0, _, _ => []
  | days + 1, n, c =>
    let here := (dayNotices s w.direction c.id).length - c.sub
    if n ≤ here then [c.id]
    else
      match w.nextId c.id with
      | none => [c.id]
      | some i => c.id :: noticeDays s w days (n - here) { id := i, sub := 0 }

/-! Pages (R173, R174). -/

/-- The 14 window fields, as in WINDOW (R197). -/
def windowBytes (w : Window) : List Byte :=
  be 1 w.origin ++ be 1 w.kind.code ++ idBytes w.first ++ idBytes w.last ++ be 1 w.firstComponent ++ be 1 w.lastComponent
    ++ be 1 (if w.order = .recordMajor then 0 else 1) ++ be 1 (if w.direction = .forward then 0 else 1)

/-- R173: the item count of the window header. -/
def itemCount (s : State) (w : Window) : Nat :=
  match w.kind with
  | .interval | .day => w.idCount * (w.lastComponent + 1 - w.firstComponent)
  | .notice => (w.ids.map (fun d => (dayNotices s w.direction d).length)).sum
  | .year => w.idCount * 8

/-- R173: the absent count of the window header. -/
def absentCount (s : State) (view : Option IntervalRecord) (w : Window) : Nat :=
  match w.kind with
  | .interval | .day => (w.ids.filter (absentId s view w)).length
  | .notice => (w.ids.filter (fun d => (dayNotices s w.direction d).isEmpty)).length
  | .year => (w.ids.filter (fun y =>
      (lookup s w.origin .year1 y).isNone && (lookup s w.origin .year2 y).isNone)).length

/-- The HEADER page (R173, R197). -/
def headerPage (s : State) (view : Option IntervalRecord) (w : Window) : List Byte :=
  be 1 0 ++ be 1 (bit w.headerPending * 2) ++ be 1 0 ++ windowBytes w ++ be 4 (itemCount s w) ++ be 4 (absentCount s view w)

/-- The page type of a window kind (R197). -/
def pageType : WindowKind → Nat
  | .interval => 1 | .day => 2 | .notice => 3 | .year => 4

/-- The successor of a YEAR coordinate (R178). -/
def Window.yearSuccessor (w : Window) (c : Cursor) : Option Cursor :=
  if c.sub = 1 then some { c with sub := 2 } else (w.nextId c.id).map (fun y => { id := y, sub := 1 })

/-- The entries of the page from a cursor on: their number, their bytes, and the cursor after them; none at the wrap
(R174). A NOTICE page looks for one notice more than it holds: with none left the window's last notice is served, and the
reply carries WRAPPED (R172, R177; log entry 21). -/
def pageFrom (s : State) (view : Option IntervalRecord) (w : Window) (c : Cursor) : Nat × List Byte × Option Cursor :=
  match w.kind with
  | .interval | .day =>
    let (l, after) := w.coordinates 6 c
    (l.length, (l.map (resolveItem s view w)).flatten, after)
  | .notice =>
    let found := noticesFrom s w (w.idCount + 1) 4 c
    let l := found.take 3
    (l.length, (l.map (fun e => noticeItem e.1)).flatten,
      if found.length ≤ 3 then none else l.getLast?.map (fun e => e.2))
  | .year => (4, yearPage s w.origin c, w.yearSuccessor c)

/-- A page of items (R197). -/
def itemsPage (k : WindowKind) (p : Nat × List Byte × Option Cursor) : List Byte :=
  be 1 (pageType k) ++ be 1 (bit p.2.2.isNone) ++ be 1 p.1 ++ p.2.1

/-- R173, R174: a READ served from a window: its page and the window after it. A repeat is formed afresh from the page start
and leaves the cursor (log entry 20); with no page served yet it returns the header again. The page start of a NOTICE page is
the cursor as it stood, before it is moved past a day with no notice left (log entry 20). -/
def servePage (s : State) (view : Option IntervalRecord) (repeated : Bool) (w : Window) : List Byte × Window :=
  if w.headerPending then (headerPage s view w, { w with headerPending := false })
  else if repeated then
    match w.pageStart with
    | none => (headerPage s view w, w)
    | some c => (itemsPage w.kind (pageFrom s view w c), w)
  else
    let p := pageFrom s view w w.cursor
    (itemsPage w.kind p, { w with pageStart := some w.cursor, cursor := p.2.2.getD w.start })

/-! Store reads (R130, R168). -/

/-- Whether a coordinate of an INTERVAL or DAY window is resolved by reading the die. -/
def coordinateReads (s : State) (view : Option IntervalRecord) (w : Window) (i : Id) : Bool :=
  !isProvisional s view w i && lookupReads s w.origin (recordKind w.kind) i

/-- Whether an id of a window is resolved by reading the die. -/
def idReads (s : State) (view : Option IntervalRecord) (w : Window) (i : Id) : Bool :=
  match w.kind with
  | .interval | .day => coordinateReads s view w i
  | .notice => (indexEntry s.store.index s.station i).isSome
  | .year => lookupReads s w.origin .year1 i || lookupReads s w.origin .year2 i

/-- Whether the reply to a READ needs a store read. -/
def pageReads (s : State) (view : Option IntervalRecord) (repeated : Bool) (w : Window) : Bool :=
  let c := if repeated then w.pageStart.getD w.cursor else w.cursor
  if w.headerPending || (repeated && w.pageStart.isNone) then w.ids.any (idReads s view w)
  else
    match w.kind with
    | .interval | .day => (w.coordinates 6 c).1.any (fun x => coordinateReads s view w x.id)
    | .notice => (noticeDays s w (w.idCount + 1) 4 c).any (idReads s view w)
    | .year => lookupReads s w.origin (partKind c.sub) c.id

/-- The window after a READ served from it: the terminal's window, or the one kept by the READs that wait for it. -/
def updateWindow (terminal : Nat) (w : Window) (r : Readout) : Readout :=
  { r with
    windows := if (r.window terminal).any (fun x => x.serial == w.serial) then r.windows.set (terminal - 12) (some w)
      else r.windows,
    waiting := r.waiting.map (fun x => if x.replaced.isSome && x.serial == w.serial then { x with replaced := some w } else x) }

/-- A READ served from its window: the page is formed now, the window is moved on, and the ITEMS reply is offered with the
READ's time of taking (R168, R174). -/
def serveRead (r : WaitingRead) (w : Window) (s : State) : State :=
  let (page, w') := servePage s r.view r.repeated w
  offerReply .items r.terminal r.taken page (s.setReadout (updateWindow r.terminal w' s.readout))

/-- The window a waiting READ is served from (R171). -/
def readWindow (r : WaitingRead) (s : State) : Option Window :=
  match r.replaced with
  | some w => some w
  | none => s.readout.window r.terminal

/-- R130: the first waiting READ is served while the programmer has no operation in progress. -/
def serveWaiting (s : State) : State :=
  match s.store.programmer, s.readout.waiting with
  | none, r :: rest =>
    let s := s.setReadout { s.readout with waiting := rest }
    match readWindow r s with
    | some w => serveRead r w s
    | none => offerAnswer .read r.terminal r.taken .condition s
  | _, _ => s

/-- A READ of a terminal with a window: served at once, or waiting for the programmer (R130, R168). The provisional view is
formed when the READ is taken (R175). -/
def takeReadOf (terminal : Nat) (repeated : Bool) (w : Window) (s : State) : State :=
  let r : WaitingRead :=
    { terminal := terminal, taken := s.now, repeated := repeated, view := provisionalView s, serial := w.serial }
  let behind := s.readout.waiting.any (fun x => x.terminal == terminal)
  let blocked := (s.store.programmer.isSome || !s.readout.waiting.isEmpty) && pageReads s r.view repeated w
  if behind || blocked then s.setReadout { s.readout with waiting := s.readout.waiting ++ [r] }
  else serveRead r w s

/-- R174: a READ taken. -/
def takeRead (terminal : Nat) (payload : List Byte) (s : State) : State :=
  match readRepeat payload with
  | none => offerAnswer .read terminal s.now .range s
  | some repeated =>
    match s.readout.window terminal with
    | none => offerAnswer .read terminal s.now .condition s
    | some w => takeReadOf terminal repeated w s

/-! Action requests (R180, R181). -/

/-- A CONFIGURE: a payload that names no part is answered RANGE (R167, R197). -/
def takeConfigureBytes (payload : List Byte) (s : State) : State × AnswerCode :=
  match configurePart payload with
  | none => (s, .range)
  | some part => takeConfigure part s

/-- A START: answered at once, or its answer is deferred (R181). -/
def takeStartRequest (terminal : Nat) (s : State) : State :=
  match takeStart terminal s.now s with
  | (s', some code) => offerAnswer .start terminal s.now code s'
  | (s', none) => s'

end Sys2Proof.Machine
end

