-- ==== Sys2Proof/Machine/DeviceCommands.lean ====
section
/-! DEFINITION. The meanings of the commands that reach the station at its pins and from its own time: reset, the analyser
line, the plant signals, minute closes and the ageing of the load share table. -/

namespace Sys2Proof.Machine

/-- Every slot of a block from `i` down to 0 VOID. -/
def dieVoid (block : Nat) : Nat → List (Nat × SlotContent) → List (Nat × SlotContent)
  | 0, die => die
  | i + 1, die => dieVoid block i (dieWrite die (slotAddress block i) .void)

/-- The die after a reset that cut off an operation (R127, R152): a slot being programmed or copied into is VOID; a block being
erased is UNCLEAN, here every slot of it VOID (log entry 27). -/
def cutOff (op : Option ProgOp) (die : List (Nat × SlotContent)) : List (Nat × SlotContent) :=
  match op with
  | none => die
  | some (.programHead _ b n) => dieWrite die (slotAddress b n) .void
  | some (.programOpenHeader _ b _) => dieWrite die (slotAddress b 0) .void
  | some (.programTargetHeader b _) => dieWrite die (slotAddress b 0) .void
  | some (.programRecord b n) => dieWrite die (slotAddress b n) .void
  | some (.programCopyEnd b n) => dieWrite die (slotAddress b n) .void
  | some (.programRetiredHeader b _) => dieWrite die (slotAddress b 0) .void
  | some (.programConfig n) => dieWrite die (slotAddress 0 n) .void
  | some (.erase b _) => dieVoid b 1024 die
  | some (.copy _ b n) => dieWrite die (slotAddress b n) .void

/-- R183: the station number the straps give. -/
def stationOfStraps (straps : BitVec 3) : Nat := if straps.toNat = 0 then 8 else straps.toNat

/-- The station at the end of a power-on reset: every block at its reset value, the die as the reset found it, the levels and
the straps as they stand (R20, R38, R63, R64, R80, R98, R114, R126, R155, R166, R182, R192, R195). -/
def resetState (straps : BitVec 3) (fire feed clean trip : Bool) (s : State) : State :=
  { plant := { fire := fire, feed := feed, clean := clean, trip := trip },
    store := { die := cutOff s.store.programmer s.store.die },
    ctrl := { station := stationOfStraps straps },
    freeCount := s.freeCount, pending := s.pending }

/-- POWER_ON_RESET (R192). -/
def execPowerOnReset (straps : BitVec 3) (fire feed clean trip : Bool) (s : State) : Host.Outcome State Fault Refusal :=
  .next (resetState straps fire feed clean trip s)

/-- ANALYSER_FRAME (R2, R3): the bytes, in order. -/
def execAnalyserFrame (bytes : List Byte) (s : State) : Host.Outcome State Fault Refusal :=
  .next (bytes.foldl receiveAnalyserByte s)

/-- ANALYSER_FRAME_ABANDON (R2): the partial frame is discarded and counted; while hunting there is none. -/
def execAnalyserFrameAbandon (s : State) : Host.Outcome State Fault Refusal :=
  .next (if s.intake.partialFrame.isEmpty then s else countFrameError (setPartial [] s))

/-- INPUT_EDGE (R64): an edge changes the held level; a line already at the level has no edge. -/
def execInputEdge (line : InputLine) (active : Bool) (s : State) : Host.Outcome State Fault Refusal :=
  .next (if s.plant.level line = active then s else takeEdge line active s)

/-- MINUTE_CLOSE (R100). -/
def execMinuteClose (s : State) : Host.Outcome State Fault Refusal := .next (minuteEnds s)

/-- The untimed minute timer reaches 60 s (R67): the time it still had to run passes. Stopped, it does not expire. -/
def untimedEnds (s : State) : State :=
  match s.plant.untimed with
  | some u => untimedExpiry (elapse (60000000 - u) s)
  | none => s

/-- UNTIMED_MINUTE_CLOSE (R67). -/
def execUntimedMinuteClose (s : State) : Host.Outcome State Fault Refusal := .next (untimedEnds s)

/-- R120: a present entry reaches an age of 3,600 s and ceases to be present; the time up to that passes. An entry into which
a report was written at this very moment has its age restarted and does not expire. -/
def ageOut (station : Nat) (s : State) : State :=
  match s.share.entry station with
  | some e =>
    if e.age = 0 then s
    else
      let s := elapse (3600000000 - e.age) s
      s.setShare (s.share.setEntry station none)
  | none => s

/-- LOAD_ENTRY_AGE_OUT (R120). -/
def execLoadEntryAgeOut (station : Fin 8) (s : State) : Host.Outcome State Fault Refusal :=
  .next (ageOut (station.val + 1) s)

end Sys2Proof.Machine
end

