-- ==== Sys2Proof/Machine/LinkControl.lean ====
section
/-! DEFINITION. The link controller (05): the receiver, the checking and routing of a complete frame, and what becomes of a
transmission and of a queue entry. -/

namespace Sys2Proof.Machine

/-- The receiver in another condition, with the characters of the frame in assembly gone. -/
def setReceiver (r : Receiver) (s : State) : State :=
  s.setLink { s.link with receiver := r, characters := [] }

/-- One receive error (R97). -/
def countReceiveError (s : State) : State :=
  s.setLink { s.link with receiveErrors := count16 s.link.receiveErrors 1 }

/-- One address clash (R85, R97). -/
def countClash (s : State) : State :=
  s.setLink { s.link with addressClashes := count16 s.link.addressClashes 1 }

/-- A frame that arrives whole, before its checks. It is no frame to a receiver that waits for idle (R83). After a complete
frame and before an idle its start bit is a receive error, and the receiver waits for idle (R83). While the station
transmits, what completes on the line is its own frame, which TRANSMIT_COMPLETE takes and no block is handed (R85).
Otherwise `checked` deals with the frame. -/
def wholeFrame (checked : State → State) (s : State) : State :=
  match s.link.attempt, s.link.receiver with
  | some _, _ => s
  | none, .waitIdle => s
  | none, .afterFrame => countReceiveError (setReceiver .waitIdle s)
  | none, .idle => checked (setReceiver .afterFrame s)
  | none, .assembling => checked (setReceiver .afterFrame s)

/-- The checks of a frame whose check field agrees (R84, 2 to 5), the station's own number (R85), the frames accepted (R86),
and the hand-over to the owner, which a broadcast in FAILED is not given (R87). -/
def checkFrame (kind sender target : Byte) (payload : List Byte) (owner : State → State) (s : State) : State :=
  match frameKindOf kind.toNat with
  | none => countReceiveError s
  | some k =>
    if !frameAllowed k sender.toNat target.toNat payload then countReceiveError s
    else if sender.toNat = s.station then countClash s
    else if !acceptedHere s.station k target.toNat then s
    else if s.ctrl.state = .failed && k.frameClass == .broadcast then s
    else owner s

/-- A complete frame (R84 to R87). -/
def receiveFrame (kind sender target : Byte) (payload : List Byte) (owner : State → State) (s : State) : State :=
  wholeFrame (checkFrame kind sender target payload owner) s

/-- A complete frame of a known kind. -/
def receiveKind (k : FrameKind) (sender target : Byte) (payload : List Byte) (owner : State → State) (s : State) : State :=
  receiveFrame (BitVec.ofNat 8 k.code) sender target payload owner s

/-- R86: a frame that passes the checks and the station's number but is not accepted here. -/
def foreignTraffic (station : Nat) (kind sender target : Byte) (payload : List Byte) : Bool :=
  match frameKindOf kind.toNat with
  | none => false
  | some k =>
    frameAllowed k sender.toNat target.toNat payload && sender.toNat != station && !acceptedHere station k target.toNat

/-- A frame in assembly breaks (R83): one receive error, and the receiver waits for idle. Before that idle nothing more is
counted, and a frame the station itself sends or aborts is not counted here. -/
def breakFrame (s : State) : State :=
  match s.link.attempt, s.link.receiver with
  | some _, _ => s
  | none, .waitIdle => s
  | none, _ => countReceiveError (setReceiver .waitIdle s)

/-- The line is idle (R82). During an attempt the station drives the line, and it is not. -/
def lineFallsIdle (s : State) : State :=
  match s.link.attempt with
  | some _ => s
  | none => setReceiver .idle s

/-! Sending. -/

/-- The first of two waiting entries, the one that stands earlier in the queue given first: the lower kind code, and between
equal kinds the one offered earlier (R92). -/
def firstOf (a b : TxEntry × Nat) : TxEntry × Nat := if b.1.kind.code < a.1.kind.code then b else a

/-- The first waiting entry in the order of R92, with its place. -/
def firstWaiting : List (TxEntry × Nat) → Option (TxEntry × Nat)
  | [] => none
  | e :: rest =>
    match firstWaiting rest with
    | none => if e.1.sending then none else some e
    | some b => if e.1.sending then some b else some (firstOf e b)

/-- The place of the queue head (R92). -/
def queueHead (q : List TxEntry) : Option Nat := (firstWaiting q.zipIdx).map (fun e => e.2)

/-- The entry in transmission. -/
def Link.sendingEntry (l : Link) : Option TxEntry := l.queue.find? (fun e => e.sending)

/-- R88: an attempt begins with the queue head on an idle line. -/
def beginAttempt (s : State) : State :=
  match s.link.attempt, s.link.receiver, queueHead s.link.queue with
  | none, .idle, some n =>
    s.setLink { s.link with attempt := some 0, receiver := .assembling, characters := [],
                            queue := updateAt s.link.queue n (fun e => { e with sending := true }) }
  | _, _, _ => s

/-- The attempt ends: its entry leaves the queue, or stands in it as `kept`. -/
def endAttempt (kept : Option TxEntry) (l : Link) : Link :=
  { l with attempt := none, queue := l.queue.filterMap (fun e => if e.sending then kept else some e) }

/-- R93, R94: a newer entry waits that the entry in transmission would have been replaced by. -/
def superseded (l : Link) (e : TxEntry) : Bool := l.queue.any (fun n => !n.sending && n.replaces e)

/-- An entry counted as expired; a RESULT is also a result miss (R96, R97). -/
def countExpired (e : TxEntry) (l : Link) : Link :=
  { l with expiredFrames := count16 l.expiredFrames 1,
           resultMisses := count16 l.resultMisses (if e.kind = .result then 1 else 0) }

/-- What becomes of an entry whose attempt ended without completion (R89, R90, R93, R96). Past its deadline it is removed and
counted as expired; replaced by a newer one it is removed uncounted; else it waits again with its errors. -/
def settleEntry (e : TxEntry) (l : Link) : Link :=
  if e.deadline ≤ l.deadlineTimer then countExpired e (endAttempt none l)
  else if superseded l e then endAttempt none l
  else endAttempt (some { e with sending := false }) l

/-- R89: arbitration is lost; the station goes on receiving the frame of the winner. -/
def loseArbitration (s : State) : State :=
  match s.link.attempt, s.link.sendingEntry with
  | some _, some e => s.setLink (settleEntry e s.link)
  | _, _ => s

/-- R90: the entry of an attempt that ended in its sixteenth transmit error is dropped and LINK_FAULT set; a RESULT dropped is
a result miss. A replaced entry is only removed (R93); one past its deadline is counted expired and sets LINK_FAULT (R96). -/
def dropAtSixteen (e : TxEntry) (l : Link) : Link :=
  if superseded l e then settleEntry e l
  else
    let l := { l with linkFault := true }
    if e.deadline ≤ l.deadlineTimer then countExpired e (endAttempt none l)
    else
      let l := endAttempt none l
      { l with resultMisses := count16 l.resultMisses (if e.kind = .result then 1 else 0) }

/-- R90: a transmit error. The entry's and the link's counts rise; the aborted frame is broken on the station's own receiver,
which waits for idle and counts nothing (R83). -/
def failAttempt (s : State) : State :=
  match s.link.attempt, s.link.sendingEntry with
  | some _, some e =>
    let e := { e with errors := e.errors + 1 }
    let l := { s.link with transmitErrors := count16 s.link.transmitErrors 1 }
    let l := if 16 ≤ e.errors then dropAtSixteen e l else settleEntry e l
    setReceiver .waitIdle (s.setLink l)
  | _, _ => s

/-- R91: the frame is complete: its entry is removed, LINK_FAULT is cleared, and the frame taken back is the station's own
(R85). -/
def completeAttempt (s : State) : State :=
  match s.link.attempt, s.link.sendingEntry with
  | some _, some _ => setReceiver .afterFrame (s.setLink { endAttempt none s.link with linkFault := false })
  | _, _ => s

/-- Of the waiting entries the one whose deadline comes first, the one offered earlier between equal deadlines, with its
place. -/
def earliestDeadline : List (TxEntry × Nat) → Option (TxEntry × Nat)
  | [] => none
  | e :: rest =>
    match earliestDeadline rest with
    | none => if e.1.sending then none else some e
    | some b => if e.1.sending || b.1.deadline < e.1.deadline then some b else some e

/-- R96: the waiting entry whose deadline comes first expires; the time up to its deadline passes, also when the entry that
was due has since been replaced or displaced (log entry 2). No other waiting entry's deadline comes before it. -/
def expireEntry (s : State) : State :=
  match earliestDeadline s.link.queue.zipIdx with
  | none => s
  | some (e, n) =>
    elapse (e.deadline - s.now) (s.setLink (countExpired e { s.link with queue := s.link.queue.eraseIdx n }))

end Sys2Proof.Machine
end

