-- ==== Sys2Proof/Machine/FrameCommands.lean ====
section
/-! DEFINITION. The meanings of the commands of the plant link: frames taken, frames not taken, and what becomes of the
station's own transmissions. -/

namespace Sys2Proof.Machine

/-! Station broadcasts. -/

/-- MARK (R103 to R107). -/
def execMark (sender target : Byte) (payload : List Byte) (s : State) : Host.Outcome State Fault Refusal :=
  .next (receiveKind .mark sender target payload (takeMark (markId payload)) s)

/-- LOAD (R118). -/
def execLoad (sender target : Byte) (payload : List Byte) (s : State) : Host.Outcome State Fault Refusal :=
  .next (receiveKind .load sender target payload (takeLoad sender.toNat (loadFields payload)) s)

/-- RESULT (R158 to R162). -/
def execResult (sender target : Byte) (payload : List Byte) (s : State) : Host.Outcome State Fault Refusal :=
  .next (receiveKind .result sender target payload (takeResult sender.toNat (resultSlot payload)) s)

/-! Terminal requests. -/

/-- A terminal request taken and dealt with by the readout unit (R87, R167). -/
def receiveRequest (k : FrameKind) (sender target : Byte) (payload : List Byte) (serve : State → State) (s : State) : State :=
  receiveKind k sender target payload (gate k sender.toNat serve) s

/-- STATUS_REQ (R169). -/
def execStatusReq (sender target : Byte) (payload : List Byte) (s : State) : Host.Outcome State Fault Refusal :=
  .next (receiveRequest .statusReq sender target payload (takeStatus sender.toNat payload) s)

/-- WINDOW (R170, R171). -/
def execWindow (sender target : Byte) (payload : List Byte) (s : State) : Host.Outcome State Fault Refusal :=
  .next (receiveRequest .window sender target payload
    (fun s => answerWith .window sender.toNat s.now (takeWindow sender.toNat payload s)) s)

/-- READ (R173, R174). -/
def execRead (sender target : Byte) (payload : List Byte) (s : State) : Host.Outcome State Fault Refusal :=
  .next (receiveRequest .read sender target payload (takeRead sender.toNat payload) s)

/-- TIME (R108 to R112). -/
def execTime (sender target : Byte) (payload : List Byte) (s : State) : Host.Outcome State Fault Refusal :=
  .next (receiveRequest .time sender target payload
    (fun s => answerWith .time sender.toNat s.now (takeTime sender.toNat (timeFields payload) s)) s)

/-- RELEASE (R75). -/
def execRelease (sender target : Byte) (payload : List Byte) (s : State) : Host.Outcome State Fault Refusal :=
  .next (receiveRequest .release sender target payload
    (fun s => answerWith .release sender.toNat s.now (takeRelease sender.toNat s)) s)

/-- CONFIGURE (R185). -/
def execConfigure (sender target : Byte) (payload : List Byte) (s : State) : Host.Outcome State Fault Refusal :=
  .next (receiveRequest .configure sender target payload
    (fun s => answerWith .configure sender.toNat s.now (takeConfigureBytes payload s)) s)

/-- START (R187, R188). -/
def execStart (sender target : Byte) (payload : List Byte) (s : State) : Host.Outcome State Fault Refusal :=
  .next (receiveRequest .start sender target payload (takeStartRequest sender.toNat) s)

/-- RESTART (R191). -/
def execRestart (sender target : Byte) (payload : List Byte) (s : State) : Host.Outcome State Fault Refusal :=
  .next (receiveRequest .restart sender target payload
    (fun s => answerWith .restart sender.toNat s.now (takeRestart sender.toNat s)) s)

/-! Frames that no block is handed. -/

/-- ADDRESS_CLASH (R85): a frame of another node with the station's own number as sender. -/
def execAddressClash (kind target : Byte) (payload : List Byte) (s : State) : Host.Outcome State Fault Refusal :=
  .next (receiveFrame kind (BitVec.ofNat 8 s.station) target payload id s)

/-- FRAME_BROKEN (R83): whatever broke it, it is counted once. -/
def execFrameBroken (_cause : BreakCause) (s : State) : Host.Outcome State Fault Refusal := .next (breakFrame s)

/-- FRAME_CHECK_FAIL (R84): characters that pass every check are no such frame, and change nothing. -/
def execFrameCheckFail (characters : List Byte) (s : State) : Host.Outcome State Fault Refusal :=
  .next (if charactersPass characters then s else wholeFrame countReceiveError s)

/-- TRAFFIC_FOR_ANOTHER_NODE (R86): a frame that fails R84, is under the station's own number (R85) or would be
accepted here is no such traffic, and this command then changes nothing (log entry 31). -/
def execTrafficForAnotherNode (kind sender target : Byte) (payload : List Byte) (s : State) :
    Host.Outcome State Fault Refusal :=
  .next (if foreignTraffic s.station kind sender target payload then receiveFrame kind sender target payload id s else s)

/-- LINE_IDLE (R82). -/
def execLineIdle (s : State) : Host.Outcome State Fault Refusal := .next (lineFallsIdle s)

/-! The station's own transmissions. -/

/-- TRANSMIT_ATTEMPT_START (R88, R92). -/
def execTransmitAttemptStart (s : State) : Host.Outcome State Fault Refusal := .next (beginAttempt s)

/-- ARBITRATION_LOST (R89). -/
def execArbitrationLost (s : State) : Host.Outcome State Fault Refusal := .next (loseArbitration s)

/-- TRANSMIT_ERROR (R90). -/
def execTransmitError (s : State) : Host.Outcome State Fault Refusal := .next (failAttempt s)

/-- TRANSMIT_COMPLETE (R91). -/
def execTransmitComplete (s : State) : Host.Outcome State Fault Refusal := .next (completeAttempt s)

/-- ENTRY_EXPIRED (R96). -/
def execEntryExpired (s : State) : Host.Outcome State Fault Refusal := .next (expireEntry s)

end Sys2Proof.Machine
end

