-- ==== Sys2Proof/Machine/StoreCommands.lean ====
section
/-! DEFINITION. The meanings of the commands of the record store: the programmer's beginning of work, the completions of its
operations, a waiting store read, and the end of the start-up scan. -/

namespace Sys2Proof.Machine

/-- R131: the idle programmer examines its order of work. Six settlings at most can come before an operation begins: the stall
of each area, an abandoned relocation, an owed relocation of each area. -/
def startWork (s : State) : State := if programmerFree s then examineWork 8 s else s

/-- PROGRAMMER_START (R131). -/
def execProgrammerStart (s : State) : Host.Outcome State Fault Refusal := .next (startWork s)

/-- A slot program in progress completes, by what it programs. -/
def programComplete (pass : Bool) (s : State) : State :=
  let idle := setProgrammer none s
  match s.store.programmer with
  | some (.programHead a b n) => headComplete a b n pass idle
  | some (.programOpenHeader a b q) => openHeaderComplete a b q pass idle
  | some (.programTargetHeader b q) => targetHeaderComplete b q pass idle
  | some (.programRecord b n) => recordComplete b n pass idle
  | some (.programCopyEnd b n) => copyEndComplete b n pass idle
  | some (.programRetiredHeader b q) => retiredHeaderComplete b q pass idle
  | some (.programConfig n) => configComplete n pass idle
  | some (.erase _ _) | some (.copy _ _ _) | none => s

/-- SLOT_PROGRAM_COMPLETE (R133 to R136, R142 to R146, R150). -/
def execSlotProgramComplete (pass : Bool) (s : State) : Host.Outcome State Fault Refusal := .next (programComplete pass s)

/-- A block erase in progress completes. -/
def eraseComplete (pass : Bool) (s : State) : State :=
  match s.store.programmer with
  | some (.erase _ .config) => recheckStalled (configEraseComplete pass (setProgrammer none s))
  | some (.erase b p) => poolEraseComplete b p pass (setProgrammer none s)
  | _ => s

/-- BLOCK_ERASE_COMPLETE (R139 to R141, R145, R150). -/
def execBlockEraseComplete (pass : Bool) (s : State) : Host.Outcome State Fault Refusal := .next (eraseComplete pass s)

/-- A slot copy in progress completes. -/
def slotCopyComplete (pass : Bool) (s : State) : State :=
  match s.store.programmer with
  | some (.copy source target n) => copyComplete source target n pass (setProgrammer none s)
  | _ => s

/-- SLOT_COPY_COMPLETE (R143, R146). -/
def execSlotCopyComplete (pass : Bool) (s : State) : Host.Outcome State Fault Refusal := .next (slotCopyComplete pass s)

/-- STORE_READ_SERVED (R130). -/
def execStoreReadServed (s : State) : Host.Outcome State Fault Refusal := .next (serveWaiting s)

/-- SCAN_COMPLETE (R151 to R153). -/
def execScanComplete (failedErases failedHeaders : List Nat) (s : State) : Host.Outcome State Fault Refusal :=
  .next (scanEnds failedErases failedHeaders s)

end Sys2Proof.Machine
end

