-- ==== Sys2Proof/Machine/Dispatch.lean ====
section
/-! DEFINITION. One arm per command, each one direct call of its meaning. -/

namespace Sys2Proof.Machine

def exec (i : Instr) (s : State) : Host.Outcome State Fault Refusal :=
  match i with
  | .powerOnReset straps fire feed clean trip => Sys2Proof.Machine.execPowerOnReset straps fire feed clean trip s
  | .analyserFrame bytes => Sys2Proof.Machine.execAnalyserFrame bytes s
  | .analyserFrameAbandon => Sys2Proof.Machine.execAnalyserFrameAbandon s
  | .inputEdge line active => Sys2Proof.Machine.execInputEdge line active s
  | .minuteClose => Sys2Proof.Machine.execMinuteClose s
  | .untimedMinuteClose => Sys2Proof.Machine.execUntimedMinuteClose s
  | .mark sender target payload => Sys2Proof.Machine.execMark sender target payload s
  | .load sender target payload => Sys2Proof.Machine.execLoad sender target payload s
  | .result sender target payload => Sys2Proof.Machine.execResult sender target payload s
  | .addressClash kind target payload => Sys2Proof.Machine.execAddressClash kind target payload s
  | .frameBroken cause => Sys2Proof.Machine.execFrameBroken cause s
  | .frameCheckFail characters => Sys2Proof.Machine.execFrameCheckFail characters s
  | .statusReq sender target payload => Sys2Proof.Machine.execStatusReq sender target payload s
  | .window sender target payload => Sys2Proof.Machine.execWindow sender target payload s
  | .read sender target payload => Sys2Proof.Machine.execRead sender target payload s
  | .time sender target payload => Sys2Proof.Machine.execTime sender target payload s
  | .release sender target payload => Sys2Proof.Machine.execRelease sender target payload s
  | .configure sender target payload => Sys2Proof.Machine.execConfigure sender target payload s
  | .start sender target payload => Sys2Proof.Machine.execStart sender target payload s
  | .restart sender target payload => Sys2Proof.Machine.execRestart sender target payload s
  | .transmitAttemptStart => Sys2Proof.Machine.execTransmitAttemptStart s
  | .arbitrationLost => Sys2Proof.Machine.execArbitrationLost s
  | .transmitError => Sys2Proof.Machine.execTransmitError s
  | .transmitComplete => Sys2Proof.Machine.execTransmitComplete s
  | .entryExpired => Sys2Proof.Machine.execEntryExpired s
  | .loadEntryAgeOut station => Sys2Proof.Machine.execLoadEntryAgeOut station s
  | .programmerStart => Sys2Proof.Machine.execProgrammerStart s
  | .slotProgramComplete pass => Sys2Proof.Machine.execSlotProgramComplete pass s
  | .blockEraseComplete pass => Sys2Proof.Machine.execBlockEraseComplete pass s
  | .slotCopyComplete pass => Sys2Proof.Machine.execSlotCopyComplete pass s
  | .storeReadServed => Sys2Proof.Machine.execStoreReadServed s
  | .scanComplete failedErases failedHeaders => Sys2Proof.Machine.execScanComplete failedErases failedHeaders s
  | .lineIdle => Sys2Proof.Machine.execLineIdle s
  | .trafficForAnotherNode kind sender target payload => Sys2Proof.Machine.execTrafficForAnotherNode kind sender target payload s

end Sys2Proof.Machine
end

