-- ==== Sys2Proof/Machine/Idle.lean ====
section
/-! DEFINITION. The station's own time (log entries 1 and 2): on an empty queue a tick passes, and the commands that the
station's timers and its programmer bring about are queued. -/

namespace Sys2Proof.Machine

/-- R99: the running minute has reached its length. -/
def minuteDue (s : State) : Bool :=
  match s.clock.time with
  | some t => !t.atRangeEnd && s.clock.remaining == 0
  | none => false

/-- R67: the untimed minute timer has run 60 s. -/
def untimedDue (s : State) : Bool := s.plant.untimed.any (fun u => 60000000 ≤ u)

/-- R96: the waiting entries that have reached their deadlines. -/
def expiriesDue (s : State) : List Instr :=
  (s.link.queue.filter (fun e => !e.sending && e.deadline ≤ s.now)).map (fun _ => .entryExpired)

/-- R120: the station numbers whose present entries have reached an age of 3,600 s. -/
def agesDue (s : State) : List Instr :=
  (List.finRange 8).filterMap (fun n =>
    if (s.share.entry (n.val + 1)).any (fun e => 3600000000 ≤ e.age) then some (.loadEntryAgeOut n) else none)

/-- R130, R131: a waiting store read is served by the idle programmer, else available work is begun. -/
def programmerDue (s : State) : List Instr :=
  if s.store.programmer.isSome then []
  else if !s.readout.waiting.isEmpty then [.storeReadServed]
  else if programmerFree s && (nextWork s).isSome then [.programmerStart]
  else []

/-- The commands that are due at this moment, in the order they are queued. The expiries come before the closes, so that no
entry that a close replaces, displaces or refreshes has an expiry still queued (R96, R120). -/
def dueCommands (s : State) : List Instr :=
  expiriesDue s ++ agesDue s ++ (if minuteDue s then [.minuteClose] else [])
    ++ (if untimedDue s then [.untimedMinuteClose] else []) ++ programmerDue s

/-- A tick: 4 microseconds pass, and what is due then is queued. -/
def tick (s : State) : State :=
  let s := elapse Config.tickMicros s
  s.setPending (s.pending ++ dueCommands s)

end Sys2Proof.Machine
end

