-- ==== Sys2Proof/Safety.lean ====
section
/-! DEFINITION. What holds of the station at every moment, and the situations a command finds it in, in the terms the
statements use. -/

namespace Sys2Proof.Machine

/-! What holds at every moment. -/

/-- R77, R78: PERMIT and FAULT are as their decisions give them. -/
def State.linesAgree (s : State) : Prop :=
  s.plant.permit = decidePermit s.plant.machine s.ctrl.state ∧
    s.plant.faultLine = decideFault s.plant.recordLoss s.ctrl.state

/-- R95, R132, R134: the transmit queue, the own record queue and the mirror intake queue never hold more than 8. -/
def State.queuesBounded (s : State) : Prop :=
  s.link.queue.length ≤ 8 ∧ s.store.ownQueue.length ≤ 8 ∧ s.store.mirrorQueue.length ≤ 8

/-- R11: a minute accumulator within its limits. -/
def MinuteAcc.bounded (a : MinuteAcc) : Prop := a.count ≤ 1023 ∧ -limit32 ≤ a.sum ∧ a.sum ≤ limit32

/-- R11: no channel's accumulator leaves its limits. -/
def State.accumulatorsBounded (s : State) : Prop := ∀ e ∈ s.intake.channels, e.acc.bounded

/-- At most one waiting entry of those that a test picks (R93, R94). -/
def atMostOne (p : TxEntry → Bool) (q : List TxEntry) : Prop := (q.filter (fun e => !e.sending && p e)).length ≤ 1

/-- R93, R94: at most one waiting MARK, one waiting LOAD, and one waiting reply for each terminal. -/
def State.oneWaiting (s : State) : Prop :=
  atMostOne (fun e => e.kind == .mark) s.link.queue ∧ atMostOne (fun e => e.kind == .load) s.link.queue ∧
    ∀ n, atMostOne (fun e => e.kind.frameClass == .reply && e.terminal == some n) s.link.queue

/-- R88: one entry at most is in transmission, and none outside an attempt. -/
def State.oneSending (s : State) : Prop :=
  (s.link.queue.filter (fun e => e.sending)).length ≤ 1 ∧
    (s.link.attempt = none → s.link.queue.filter (fun e => e.sending) = [])

/-- R92: the entries stand in the order of their offering, none offered after the present moment. -/
def State.offeringOrder (s : State) : Prop :=
  s.link.queue.Pairwise (fun a b => a.offered ≤ b.offered) ∧ ∀ e ∈ s.link.queue, e.offered ≤ s.link.deadlineTimer

/-- R96: no waiting entry stands past its deadline. -/
def State.noneOverdue (s : State) : Prop :=
  ∀ e ∈ s.link.queue, e.sending = false → s.link.deadlineTimer ≤ e.deadline

/-- The expiries that `dt` microseconds bring are counted (R96): each waiting entry whose deadline is passed. -/
def Link.countsExpired (l l' : Link) (dt : Nat) : Prop :=
  l'.expiredFrames = min (l.expiredFrames +
    (l.queue.filter (fun x => !x.sending && decide (x.deadline < l.deadlineTimer + dt))).length) 65535

/-- The same expiries, each RESULT among them counted as a result miss, and no other result miss (R96, R97). -/
def Link.countsExpiries (l l' : Link) (dt : Nat) : Prop :=
  l.countsExpired l' dt ∧
  l'.resultMisses = min (l.resultMisses + (l.queue.filter (fun x =>
    x.kind == .result && (!x.sending && decide (x.deadline < l.deadlineTimer + dt)))).length) 65535

/-- What `dt` microseconds make of the transmit queue (R96): the entries in transmission and those whose deadlines are not
passed stay, in their order; the others expire and are counted. -/
def Link.expiresOver (l l' : Link) (dt : Nat) : Prop :=
  l'.queue = l.queue.filter (fun x => x.sending || decide (l.deadlineTimer + dt ≤ x.deadline)) ∧ l.countsExpiries l' dt

/-- The microseconds until the running minute has run its length (R99). -/
def Clock.missing (c : Clock) (now : StationTime) : Nat := c.minuteLength * 1000000 - now.micros

/-- What an entry of the transmit queue can be: a broadcast, or a reply to one of the four terminals. -/
def TxEntry.regular (e : TxEntry) : Prop :=
  e.kind.frameClass = .broadcast ∨ (e.kind.frameClass = .reply ∧ ∃ n, e.terminal = some n ∧ 12 ≤ n ∧ n ≤ 15)

/-- Every entry of the transmit queue is a broadcast or a reply to one of the four terminals, and every reply still to be
formed goes to one: that of a READ that waits, and the ANSWER of the pending START. -/
def State.repliesAddressed (s : State) : Prop :=
  (∀ e ∈ s.link.queue, e.regular) ∧ (∀ r ∈ s.readout.waiting, isTerminal r.terminal = true) ∧
    ∀ p, s.ctrl.pendingStart = some p → isTerminal p.terminal = true

/-- The fixed tables have their sizes: 16 channel entries, eight load share entries, eight origin entries, 256 block table
entries, four windows, four deferred answers, eight components of the summary. -/
def State.tablesSized (s : State) : Prop :=
  s.intake.channels.length = 16 ∧ s.share.entries.length = 8 ∧ s.mirror.origins.length = 8 ∧
    s.store.blocks.length = 256 ∧ s.readout.windows.length = 4 ∧ s.readout.deferred.length = 4 ∧
    s.period.summary.components.length = 8

/-- R39, R40, R47: the period unit works only in RECORDING with time running, and the open interval is the running interval,
after the last own interval id. -/
def State.intervalsAdvance (s : State) : Prop :=
  (∀ t, s.clock.time = some t → t.minute ≤ 1439) ∧
    (s.period.recording ≠ .off → s.ctrl.state = .recording ∧ s.clock.time.isSome = true) ∧
    (s.period.recording = .opened → ∃ o t, s.period.openInterval = some o ∧ s.clock.time = some t ∧ o.id = t.interval ∧
      ∀ l, s.period.lastOwn = some l → l.before o.id = true)

/-! What a command finds. -/

/-- The receiver would assemble a frame: no attempt of the station's own is in progress, and the line is idle or a frame is
in assembly (R82, R83). -/
def State.hearing (s : State) : Prop :=
  s.link.attempt = none ∧ (s.link.receiver = .idle ∨ s.link.receiver = .assembling)

/-- The state once a complete frame has been received: the receiver stands after it (R83). -/
def State.frameOver (s : State) : State :=
  { s with link := { s.link with receiver := .afterFrame, characters := [] } }

/-- A frame of a kind that the station hears, that passes the checks of R84, is not under the station's number (R85) and is
accepted (R86). -/
structure State.receives (s : State) (k : FrameKind) (sender target : Byte) (payload : List Byte) : Prop where
  hears : s.hearing
  allowed : frameAllowed k sender.toNat target.toNat payload = true
  foreign : sender.toNat ≠ s.ctrl.station
  accepted : acceptedHere s.ctrl.station k target.toNat = true

/-- The states in which the readout unit serves requests and hands them on (R167). -/
def State.serving (s : State) : Prop :=
  s.ctrl.state = .setup ∨ s.ctrl.state = .untimed ∨ s.ctrl.state = .recording

/-- What a link controller with room comes to when one reply is offered (R94, R95, R168): a waiting reply to the same
terminal is gone, the reply stands at the queue's end, offered now and due 2 s after the taking of its request, and
everything else is as it was. -/
def State.replies (t : State) (l : Link) (k : FrameKind) (terminal taken : Nat) (payload : List Byte) : Prop :=
  t.link = { l with
    queue := l.queue.filter (fun o => o.sending || !(o.kind.frameClass == .reply && o.terminal == some terminal)) ++
      [{ kind := k, target := terminal, payload := payload, terminal := some terminal, offered := l.deadlineTimer,
         deadline := taken + 2000000 }] }

/-- What a link controller with room comes to when the ANSWER to a request taken now is offered (R168). -/
def State.answers (t : State) (l : Link) (request : FrameKind) (terminal : Nat) (code : AnswerCode) : Prop :=
  t.replies l .answer terminal l.deadlineTimer [BitVec.ofNat 8 request.code, BitVec.ofNat 8 code.code]

/-- An eight-byte reading frame that R3 accepts, with its status. -/
structure acceptedReading (f : List Byte) (st : AnalyserStatus) : Prop where
  length : f.length = 8
  sync : f.head? = some syncByte
  check : crc16 (f.take 6) = field f 6 2
  channel : field f 1 1 ≤ 15
  status : analyserStatusOf (field f 2 1) = some st

/-- An accumulator after a reading of the measuring class with a value as taken (R11 to R13): the sum saturates at
±2,147,483,647 with OVERFLOW, and at a count of 1,023 only CROWDED is set. -/
def MinuteAcc.added (a a' : MinuteAcc) (v : Int) : Prop :=
  (1023 ≤ a.count → a'.sum = a.sum ∧ a'.count = a.count ∧ a'.crowded = true ∧ a'.overflow = a.overflow) ∧
  (a.count < 1023 → a'.count = a.count + 1 ∧ a'.crowded = a.crowded ∧
    (2147483647 < a.sum + v → a'.sum = 2147483647 ∧ a'.overflow = true) ∧
    (a.sum + v < -2147483647 → a'.sum = -2147483647 ∧ a'.overflow = true) ∧
    (-2147483647 ≤ a.sum + v → a.sum + v ≤ 2147483647 → a'.sum = a.sum + v ∧ a'.overflow = a.overflow)) ∧
  a'.maintSeen = a.maintSeen ∧ a'.faultSeen = a.faultSeen

/-- The channel of a role closes its minute VALID with this mean (R15, R16). -/
def State.measured (s : State) (cfg : ConfigImage) (role : Option Nat) (v : Int) : Prop :=
  ∃ ch e, role = some ch ∧ s.intake.channels[ch]? = some e ∧ (e.minuteValue cfg.minReadings).state = .valid ∧
    e.acc.mean = some v

/-- R24: a held value after a minute close, against the one before it. -/
def State.holds (s : State) (cfg : ConfigImage) (role : Option Nat) (h h' : HeldValue) : Prop :=
  (role = none → h' = {}) ∧
  ∀ ch e, role = some ch → s.intake.channels[ch]? = some e →
    (∀ m, (e.minuteValue cfg.minReadings).state = .valid → e.acc.mean = some m →
      h' = { value := some m, clamped := e.acc.clamped, age := 0 }) ∧
    ((e.minuteValue cfg.minReadings).state ≠ .valid → h.value = none → h' = h) ∧
    (∀ v, (e.minuteValue cfg.minReadings).state ≠ .valid → h.value = some v →
      h' = if h.age < cfg.holdMinutes then { h with age := h.age + 1 } else h)

/-- R33, R34: the apportioned flow of a closing minute whose FLOW, with the peripherals its basis needs, is measured and not
negative. The share counts the load share entries still present when the minute has run its length (R120). -/
def State.apportioned (s : State) (cfg : ConfigImage) (now : StationTime) (qs : Int) : Prop :=
  ∃ q qn, 0 ≤ q ∧ s.measured cfg cfg.flow q ∧
    (match cfg.flowBasis with
      | .stdDry => qn = q
      | .actualWet => ∃ t p h, s.measured cfg cfg.temp t ∧ s.measured cfg cfg.press p ∧ s.measured cfg cfg.h2o h ∧
          qn = roundDiv (q * 5463 * (2 * max 8000 (min 12000 p)) * (10000 - max 0 (min 4000 h)))
            ((2 * max (-400) (min 6000 t) + 5463) * 20265 * 10000).toNat) ∧
    if cfg.stackGroup = 0 then qs = qn
    else ∃ x, decideShare (s.share.advance (s.clock.missing now)) s.ctrl.station now.minuteId = some x ∧ qs = roundDiv (qn * x.own) x.total

/-- The slot that an operation programs or copies into; none for an erase (R130). -/
def ProgOp.slot? : ProgOp → Option (Nat × Nat)
  | .programHead _ b n => some (b, n)
  | .programOpenHeader _ b _ => some (b, 0)
  | .programTargetHeader b _ => some (b, 0)
  | .programRecord b n => some (b, n)
  | .programCopyEnd b n => some (b, n)
  | .programRetiredHeader b _ => some (b, 0)
  | .programConfig n => some (0, n)
  | .erase _ _ => none
  | .copy _ b n => some (b, n)

/-- The own record queue takes a record (R132). -/
def State.ownRoom (s : State) : Prop := s.store.failed = false ∧ s.store.ownQueue.length < 8

/-- No kind of work that ranks before the queue heads is available to the idle programmer (R131). -/
structure State.headsTurn (s : State) : Prop where
  idle : s.store.programmer = none
  noRead : s.readout.waiting = []
  running : s.serving
  noRelocation : s.store.relocation = none
  noCleanup : s.store.cleanup = []
  noConfigWrite : s.store.configWrite = none

/-- The commands that carry a frame received, whole or broken. -/
def carriesFrame : Instr → Bool
  | .mark _ _ _ | .load _ _ _ | .result _ _ _ | .addressClash _ _ _ | .frameBroken _ | .frameCheckFail _
  | .statusReq _ _ _ | .window _ _ _ | .read _ _ _ | .time _ _ _ | .release _ _ _ | .configure _ _ _
  | .start _ _ _ | .restart _ _ _ | .trafficForAnotherNode _ _ _ _ => true
  | .powerOnReset _ _ _ _ _ | .analyserFrame _ | .analyserFrameAbandon | .inputEdge _ _ | .minuteClose
  | .untimedMinuteClose | .transmitAttemptStart | .arbitrationLost | .transmitError | .transmitComplete | .entryExpired
  | .loadEntryAgeOut _ | .programmerStart | .slotProgramComplete _ | .blockEraseComplete _ | .slotCopyComplete _
  | .storeReadServed | .scanComplete _ _ | .lineIdle => false

end Sys2Proof.Machine
end

