-- ==== Sys2Proof/Certificates/Slice0/Obligations.lean ====
section
/-! DEFINITION. The statements for the provers. Each docstring names the rules of the manual it rests on. -/

open Sys2Proof Sys2Proof.Machine

/-! The queue of commands and the station's own time. -/

/-- The host's form of a block: a step takes the command at the front of the queue and runs it on the state with the queue's
rest. -/
def Obligations.StepRunsTheFrontCommand : Prop :=
  ∀ (c : Instr) (rest : List Instr) (s : State), s.pending = c :: rest → step s = exec c { s with pending := rest }

/-! Power-on reset. -/

/-- R192, R195, R183, R80, R114, R98, R155, R126, R166, R182, R20, R38, R63: what every power-on reset leaves, whatever the
station was doing: the minute flags and the closed-minute flags clear, the open day and the summary absent and empty, the
deferred answers dropped, and the other registers of every block at their reset values. What the scan rebuilds before it is
read (the block table, the erased list, the sequence counter, the day index, the config position, the edit image: R155, R186;
log entry 4) is left out. -/
def Obligations.PowerOnResetLeavesEveryBlockAtReset : Prop :=
  ∀ (straps : BitVec 3) (fire feed clean trip : Bool) (s : State),
    ∃ t, exec (.powerOnReset straps fire feed clean trip) s = .next t ∧
      t.ctrl.state = .scan ∧ t.ctrl.station = (if straps = 0 then 8 else straps.toNat) ∧
      t.ctrl.inForce = none ∧ t.ctrl.pendingStart = none ∧
      t.plant.fire = fire ∧ t.plant.feed = feed ∧ t.plant.clean = clean ∧ t.plant.trip = trip ∧
      t.plant.operating = false ∧ t.plant.abnormalFlag = false ∧ t.plant.closedOperating = false ∧
      t.plant.closedAbnormal = false ∧ t.plant.machine = .normal ∧ t.plant.continuous = 0 ∧ t.plant.yearCount = 0 ∧
      t.plant.countYear = none ∧
      t.plant.untimed = none ∧ t.plant.recordLoss = false ∧ t.plant.permit = false ∧ t.plant.faultLine = true ∧
      t.clock.time = none ∧ t.clock.minuteLength = 60 ∧ t.clock.staged = none ∧ t.clock.lastClosed = none ∧
      t.clock.disagreements = 0 ∧
      t.link.receiver = .waitIdle ∧ t.link.characters = [] ∧ t.link.queue = [] ∧ t.link.attempt = none ∧ t.link.linkFault = false ∧
      t.link.receiveErrors = 0 ∧ t.link.transmitErrors = 0 ∧ t.link.resultMisses = 0 ∧ t.link.expiredFrames = 0 ∧
      t.link.addressClashes = 0 ∧ t.link.deadlineTimer = 0 ∧
      t.store.ownQueue = [] ∧ t.store.mirrorQueue = [] ∧ t.store.programmer = none ∧ t.store.relocation = none ∧
      t.store.cleanup = [] ∧ t.store.ownStalled = false ∧ t.store.mirrorStalled = false ∧ t.store.ownLosses = 0 ∧
      t.store.relocations = 0 ∧ t.store.configWrite = none ∧
      (∀ n, t.share.entry n = none) ∧ t.share.fireSeen = false ∧ t.share.lastShare = none ∧
      (∀ n, t.mirror.origin n = {}) ∧ (∀ n, t.readout.window n = none) ∧ t.readout.waiting = [] ∧
      (∀ n, t.readout.deferred.getD n none = none) ∧
      (∀ e ∈ t.intake.channels, e = {}) ∧ t.intake.partialFrame = [] ∧ t.intake.frameErrors = 0 ∧
      t.intake.crowdedMinutes = 0 ∧ t.intake.overflowMinutes = 0 ∧ t.intake.faultMinutes = 0 ∧
      t.norm = {} ∧ t.period.recording = .off ∧ t.period.openInterval = none ∧ t.period.lastOwn = none ∧
      t.period.openDay = none ∧ t.period.summary = {} ∧ t.period.summaryYear = none ∧
      t.pending = s.pending

/-- R127, R152, R155: a reset cuts off the operation in progress. A slot being programmed or copied into is VOID and every
other slot of the die holds what it held; an erase cut off leaves every other block as it was; an idle programmer leaves the
whole die as it was. -/
def Obligations.ResetCutsOffTheProgrammer : Prop :=
  ∀ (straps : BitVec 3) (fire feed clean trip : Bool) (s : State),
    ∃ t, exec (.powerOnReset straps fire feed clean trip) s = .next t ∧
      (s.store.programmer = none → t.store.die = s.store.die) ∧
      (∀ op b n, s.store.programmer = some op → op.slot? = some (b, n) →
        dieRead t.store.die (slotAddress b n) = some .void ∧
          ∀ a, a ≠ slotAddress b n → dieRead t.store.die a = dieRead s.store.die a) ∧
      (∀ b p, s.store.programmer = some (.erase b p) →
        ∀ a, a / 1024 ≠ b → dieRead t.store.die a = dieRead s.store.die a)

/-! The analyser line. -/

/-- R3, R5: an accepted reading frame, received while hunting, is captured by its channel: the latest reading moves to the
previous one. Every other channel and every other block stay. -/
def Obligations.AcceptedReadingIsCaptured : Prop :=
  ∀ (f : List Byte) (st : AnalyserStatus) (e : ChannelEntry) (s : State),
    acceptedReading f st → s.intake.partialFrame = [] → s.intake.channels[field f 1 1]? = some e →
    ∃ t e', exec (.analyserFrame f) s = .next t ∧ t = { s with intake := t.intake } ∧
      t.intake.channels[field f 1 1]? = some e' ∧
      e'.latest = some { status := st, value := takenValue s.config (roleOf s.config (field f 1 1)) st (fieldSigned f 3 3) } ∧
      e'.previous = e.latest ∧
      (∀ n, n ≠ field f 1 1 → t.intake.channels[n]? = s.intake.channels[n]?) ∧
      t.intake.partialFrame = [] ∧ t.intake.frameErrors = s.intake.frameErrors ∧
      t.intake.crowdedMinutes = s.intake.crowdedMinutes ∧ t.intake.overflowMinutes = s.intake.overflowMinutes ∧
      t.intake.faultMinutes = s.intake.faultMinutes

/-- R11, R12: a MEASURING reading of a channel with a role, in a state that accumulates, adds its value as taken to the sum,
saturating at ±2,147,483,647 with OVERFLOW, and one to the count while that is below 1,023; R13: at 1,023 it sets CROWDED
alone. R6, R11: an OVERRANGE reading adds its stand-in value, the component's ceiling or 8,388,607, and sets CLAMPED, at a
count of 1,023 too. R14: a CALIBRATING or MAINTENANCE reading sets maint-seen and a FAULT reading fault-seen, and they leave
everything else of the accumulator but the return mark. -/
def Obligations.MeasuringReadingIsAccumulated : Prop :=
  (∀ (f : List Byte) (e : ChannelEntry) (role : Role) (v : Int) (s : State),
    acceptedReading f .measuring → s.intake.partialFrame = [] → s.intake.channels[field f 1 1]? = some e → s.serving →
    roleOf s.config (field f 1 1) = some role →
    takenValue s.config (some role) .measuring (fieldSigned f 3 3) = some v →
    ∃ t e', exec (.analyserFrame f) s = .next t ∧ t.intake.channels[field f 1 1]? = some e' ∧
      e.acc.added e'.acc v ∧ e'.acc.clamped = e.acc.clamped) ∧
  (∀ (f : List Byte) (e : ChannelEntry) (role : Role) (s : State),
    acceptedReading f .overrange → s.intake.partialFrame = [] → s.intake.channels[field f 1 1]? = some e → s.serving →
    roleOf s.config (field f 1 1) = some role →
    ∃ t e' v, exec (.analyserFrame f) s = .next t ∧ t.intake.channels[field f 1 1]? = some e' ∧
      e.acc.added e'.acc v ∧ e'.acc.clamped = true ∧
      (∀ n c, role = .component (n + 1) → s.config.components[n]? = some (some c) → v = c.ceiling) ∧
      ((∀ n, role ≠ .component n) → v = 8388607)) ∧
  (∀ (f : List Byte) (st : AnalyserStatus) (e : ChannelEntry) (role : Role) (s : State),
    acceptedReading f st → st.isMeasuring = false → s.intake.partialFrame = [] →
    s.intake.channels[field f 1 1]? = some e → s.serving → roleOf s.config (field f 1 1) = some role →
    ∃ t e', exec (.analyserFrame f) s = .next t ∧ t.intake.channels[field f 1 1]? = some e' ∧
      (st ≠ .fault → e'.acc = { e.acc with maintSeen := true, returnMark := e'.acc.returnMark }) ∧
      (st = .fault → e'.acc = { e.acc with faultSeen := true, returnMark := e'.acc.returnMark }))

/-- R2, R3: a frame received while hunting whose check fails is counted and touches no channel entry, and the bytes from the
next sync value on stand as the frame in assembly; one whose check passes but whose codes are out of range is counted, and
hunting resumes after it. A frame in assembly that is abandoned is discarded and counted, and hunting resumes. -/
def Obligations.RejectedAndAbandonedFramesAreCounted : Prop :=
  (∀ (f : List Byte) (s : State), f.length = 8 → f.head? = some syncByte → s.intake.partialFrame = [] →
    (crc16 (f.take 6) ≠ field f 6 2 ∨ 15 < field f 1 1 ∨ analyserStatusOf (field f 2 1) = none) →
    ∃ t, exec (.analyserFrame f) s = .next t ∧ t = { s with intake := t.intake } ∧
      t.intake.channels = s.intake.channels ∧ t.intake.frameErrors = min (s.intake.frameErrors + 1) 65535 ∧
      t.intake.crowdedMinutes = s.intake.crowdedMinutes ∧ t.intake.overflowMinutes = s.intake.overflowMinutes ∧
      t.intake.faultMinutes = s.intake.faultMinutes ∧
      t.intake.partialFrame =
        if crc16 (f.take 6) = field f 6 2 then [] else (f.drop 1).dropWhile (fun b => b != syncByte)) ∧
  (∀ s : State, s.intake.partialFrame ≠ [] → exec .analyserFrameAbandon s = .next { s with
    intake := { s.intake with partialFrame := [], frameErrors := min (s.intake.frameErrors + 1) 65535 } })

/-- R8, R10: a reading of the measuring class after one of the non-measuring class starts the settle slot with the configured
settle minutes and sets the return mark; one of the non-measuring class in a settle slot ends the slot and leaves the return
mark. -/
def Obligations.SettleSlotFollowsReturnsAndDropouts : Prop :=
  ∀ (f : List Byte) (st : AnalyserStatus) (e : ChannelEntry) (cfg : ConfigImage) (s : State),
    acceptedReading f st → s.intake.partialFrame = [] → s.intake.channels[field f 1 1]? = some e →
    s.config? = some cfg →
    ∃ t e', exec (.analyserFrame f) s = .next t ∧ t.intake.channels[field f 1 1]? = some e' ∧
      (∀ r, e.latest = some r → st.isMeasuring = true → r.status.isMeasuring = false →
        e'.settle = cfg.settleMinutes ∧ e'.acc.returnMark = true) ∧
      (st.isMeasuring = false → (0 < e.settle ∨ e.acc.returnMark = true) →
        e'.settle = 0 ∧ e'.acc.returnMark = e.acc.returnMark) ∧
      (e.latest = none → st.isMeasuring = true → e'.settle = e.settle ∧ e'.acc.returnMark = e.acc.returnMark)

/-- R11: the count of any channel's minute accumulator never exceeds 1,023, and its sum never leaves ±2,147,483,647. -/
def Obligations.AccumulatorsStayWithinLimits : Prop :=
  ∀ s t : State, s.accumulatorsBounded → step s = .next t → t.accumulatorsBounded

/-! The minute. -/

/-- The manual's rounding (00_scope, Conventions): to the nearest integer, halfway cases away from zero. -/
def Obligations.RoundingIsToNearestAwayFromZero : Prop :=
  ∀ (x : Int) (y : Nat), 0 < y →
    2 * (y * roundDiv x y - x).natAbs ≤ y ∧
      (2 * (y * roundDiv x y - x).natAbs = y → x.natAbs < (y * roundDiv x y).natAbs)

/-- R16: VALID when the count is at least the minimum, OVERFLOW is not set and the minute is not nullified; MAINT when it is
nullified, or not VALID with maint-seen set; FAULT in any other case. -/
def Obligations.MinuteStateOfAChannel : Prop :=
  ∀ (e : ChannelEntry) (minReadings : Nat),
    ((e.minuteValue minReadings).state = .valid ↔
      minReadings ≤ e.acc.count ∧ e.acc.overflow = false ∧ e.nullified = false) ∧
    ((e.minuteValue minReadings).state = .maint ↔
      e.nullified = true ∨ ((e.minuteValue minReadings).state ≠ .valid ∧ e.acc.maintSeen = true)) ∧
    ((e.minuteValue minReadings).state = .fault ↔
      (e.minuteValue minReadings).state ≠ .valid ∧ (e.minuteValue minReadings).state ≠ .maint)

/-- R99, R100, R111, R66, R17, R115: a minute close enters the next minute at its first second, with length 60 less a staged
adjustment, which is used up; the minute flags are copied to the closed-minute flags and begin afresh, operating with FEED
active, abnormal (R65) in ABNORMAL or in CUTOFF with CLEAN and FIRE active; every accumulator is empty; an interval close is
remembered. While untimed, and in the last minute of the clock's range, which holds there (log entry 36), nothing closes. R96: the
deadline timer stands at the minute's end, every waiting entry whose deadline lies before that is gone and counted as
expired, and an entry that is new is offered at that moment. R97: where the queue has room for what the close offers, or the
station is not RECORDING and offers nothing, the result misses rise by the RESULTs expired alone. That the close may be commanded before the minute has run its length, and that
the time still missing then passes, is the model's choice (log entry 2). -/
def Obligations.MinuteCloseEntersTheNextMinute : Prop :=
  (∀ (s : State) (now : StationTime), s.clock.time = some now → now.atRangeEnd = false →
    ∃ t, exec .minuteClose s = .next t ∧ t.clock.time = some now.nextMinute ∧
      (s.clock.staged = none → t.clock.minuteLength = 60) ∧
      (∀ a, s.clock.staged = some a → t.clock.minuteLength = (60 - a.applied).toNat) ∧
      t.clock.staged = none ∧ t.clock.disagreements = s.clock.disagreements ∧
      (now.minute % 30 = 29 → t.clock.lastClosed = some { id := now.interval, elapsed := 0 }) ∧
      t.plant.closedOperating = s.plant.operating ∧ t.plant.closedAbnormal = s.plant.abnormalFlag ∧
      t.plant.operating = s.plant.feed ∧
      t.plant.abnormalFlag = (t.plant.machine == .abnormal || (t.plant.machine.isCutoff && s.plant.clean && s.plant.fire)) ∧
      t.plant.fire = s.plant.fire ∧ t.plant.feed = s.plant.feed ∧
      t.plant.clean = s.plant.clean ∧ t.plant.trip = s.plant.trip ∧
      (∀ e ∈ t.intake.channels, e.acc = {}) ∧ t.share.fireSeen = s.plant.fire ∧
      t.link.deadlineTimer = s.link.deadlineTimer + s.clock.missing now ∧
      (∀ x ∈ t.link.queue, x.offered = t.link.deadlineTimer ∨
        (x ∈ s.link.queue ∧ (x.sending = true ∨ t.link.deadlineTimer ≤ x.deadline))) ∧
      s.link.countsExpired t.link (s.clock.missing now) ∧
      (s.link.queue.length < 7 ∨ s.ctrl.state ≠ .recording → s.link.countsExpiries t.link (s.clock.missing now)) ∧
      t = { s with intake := t.intake, norm := t.norm, period := t.period, plant := t.plant, clock := t.clock,
                   share := t.share, link := t.link, store := t.store } ∧
      t.store.die = s.store.die) ∧
  (∀ s : State, s.clock.time = none → exec .minuteClose s = .next s) ∧
  ∀ (s : State) (now : StationTime), s.clock.time = some now → now.atRangeEnd = true → exec .minuteClose s = .next s

/-- R44, R45, R9: a minute close inside the open interval takes the minute: minutes taken, operating and abnormal minutes
rise by the minute and its flags, and the settle counter of each channel falls by one unless the closing minute carries its
return mark. R26, R29 to R32: a component whose channel and peripherals are measured in the minute brings its mean through
the three steps, each clamped (R23), formed exactly and rounded once: within ±2,147,483,647 the result is a VALID minute of
the component and enters its sum, else the minute is FAULT (R28). R33 to R35: the mass of a VALID minute is taken from the
dry standard concentration and the apportioned flow, which enters the flow sum. The O2 value enters the O2 sum. -/
def Obligations.OpenIntervalTakesTheMinute : Prop :=
  ∀ (s : State) (now : StationTime) (cfg : ConfigImage) (o : OpenInterval),
    s.clock.time = some now → now.atRangeEnd = false → now.minute % 30 ≠ 29 → s.config? = some cfg →
    s.period.recording = .opened → s.period.openInterval = some o →
    ∃ t o', exec .minuteClose s = .next t ∧ t.period.recording = .opened ∧ t.period.openInterval = some o' ∧
      o'.id = o.id ∧ o'.minutesTaken = o.minutesTaken + 1 ∧
      o'.operating = o.operating + (if s.plant.operating then 1 else 0) ∧
      o'.abnormal = o.abnormal + (if s.plant.abnormalFlag then 1 else 0) ∧
      o'.flags.isPartial = o.flags.isPartial ∧
      t.period.lastOwn = s.period.lastOwn ∧ t.period.openDay = s.period.openDay ∧
      (∀ (n : Nat) (e : ChannelEntry), s.intake.channels[n]? = some e → ∃ e', t.intake.channels[n]? = some e' ∧
        e'.latest = e.latest ∧ e'.settle = if e.acc.returnMark then e.settle else e.settle - 1) ∧
      (∀ qs, s.apportioned cfg now qs → o'.qsSum = o.qsSum + qs ∧ o'.qsCount = o.qsCount + 1) ∧
      (cfg.flow = none → o'.qsSum = o.qsSum ∧ o'.qsCount = o.qsCount ∧ o'.flags.noFlow = true) ∧
      (∀ oxygen, s.measured cfg cfg.o2 oxygen →
        o'.o2Sum = o.o2Sum + max 0 (min (cfg.o2Cap : Int) oxygen) ∧ o'.o2Count = o.o2Count + 1) ∧
      ∀ (n : Nat) (cc : ComponentConfig) (a : ComponentAcc) (c oxygen water temp press : Int),
        cfg.components[n]? = some (some cc) → o.components[n]? = some (some a) → s.measured cfg (some cc.channel) c →
        s.measured cfg cfg.o2 oxygen → (cc.wet = true → s.measured cfg cfg.h2o water) →
        (cc.actual = true → s.measured cfg cfg.temp temp ∧ s.measured cfg cfg.press press) →
        let o2 : Int := max 0 (min (cfg.o2Cap : Int) oxygen)
        let h : Int := max 0 (min 4000 water)
        let warmth : Int := max (-400) (min 6000 temp)
        let force : Int := max 8000 (min 12000 press)
        let c1 : Int := if cc.actual then roundDiv (c * (2 * warmth + 5463) * 20265) (5463 * (2 * force)).toNat else c
        let c2 : Int := if cc.wet then roundDiv (c1 * 10000) (10000 - h).toNat else c1
        let c3 : Int := if cc.aboveOnly = false ∨ cfg.o2Reference < o2 then
          roundDiv (c2 * (2100 - cfg.o2Reference)) (2100 - o2).toNat else c2
        let within : Prop := (cc.actual = true → c1.natAbs ≤ 2147483647) ∧ (cc.wet = true → c2.natAbs ≤ 2147483647) ∧
          ((cc.aboveOnly = false ∨ cfg.o2Reference < o2) → c3.natAbs ≤ 2147483647)
        ∃ a', o'.components[n]? = some (some a') ∧ a'.maint = a.maint ∧
          (within → a'.sum = a.sum + c3 ∧ a'.valid = a.valid + 1 ∧ a'.fault = a.fault ∧
            (∀ qs, s.apportioned cfg now qs →
              a'.massSum = a.massSum + (roundDiv (max c2 0 * qs) 6000).toNat ∧ a'.massCount = a.massCount + 1) ∧
            (cfg.flow = none → a'.massSum = a.massSum ∧ a'.massCount = a.massCount)) ∧
          (¬ within → a'.sum = a.sum ∧ a'.valid = a.valid ∧ a'.fault = a.fault + 1 ∧ a'.massSum = a.massSum ∧
            a'.massCount = a.massCount)

/-- R24: at a minute close, for each of the roles O2, H2O, T, p and FLOW: a peripheral whose channel's minute is VALID holds
its mean with hold age 0; else a held value grows one minute older while its age is below the hold minutes, and stays at
them; an absent one stays absent; a role without a channel holds nothing. -/
def Obligations.MinuteCloseHoldsThePeripherals : Prop :=
  ∀ (s : State) (now : StationTime) (cfg : ConfigImage),
    s.clock.time = some now → now.atRangeEnd = false → s.config? = some cfg →
    ∃ t, exec .minuteClose s = .next t ∧ s.holds cfg cfg.o2 s.norm.o2 t.norm.o2 ∧
      s.holds cfg cfg.h2o s.norm.h2o t.norm.h2o ∧ s.holds cfg cfg.temp s.norm.temp t.norm.temp ∧
      s.holds cfg cfg.press s.norm.press t.norm.press ∧ s.holds cfg cfg.flow s.norm.flow t.norm.flow

/-- R48: the fate of an interval, from its operating and abnormal minutes and from the way it was closed. -/
def Obligations.FateOfAnInterval : Prop :=
  ∀ (interrupted : Bool) (operating abnormal : Nat),
    (decideFate interrupted operating abnormal = .interrupted ↔ interrupted = true) ∧
    (decideFate interrupted operating abnormal = .notOperating ↔ interrupted = false ∧ operating = 0) ∧
    (decideFate interrupted operating abnormal = .abnormal ↔ interrupted = false ∧ 1 ≤ operating ∧ 1 ≤ abnormal) ∧
    (decideFate interrupted operating abnormal = .counted ↔ interrupted = false ∧ 1 ≤ operating ∧ abnormal = 0)

/-- R47, R48, R52, R102: the close of the running interval's last minute, with recording open. The interval's record, with
its id, the station's number and its fate from the minutes taken with this one, joins the own record queue; its id becomes
the last own interval id; the next interval is open and empty; and the newest MARK waiting names the interval closed. R55,
R58: the open day and the year summary take the record. R55 to R57, R60: the close of a day's last interval offers the day
record after the interval's, with each component's day values decided, and the next day is open and empty; on the last day of
a year the two parts of the YEAR record follow, with the summary as it then stands, which starts again for the year after.
That the interval's record comes before the notices of the same close is the model's choice (log entry 14), as is which
year's record it is when the summary year is not the year closed (log entry 42). -/
def Obligations.IntervalCloseRecordsTheInterval : Prop :=
  (∀ (s : State) (now : StationTime) (cfg : ConfigImage) (o : OpenInterval),
    s.clock.time = some now → now.atRangeEnd = false → now.minute % 30 = 29 → s.config? = some cfg →
    s.period.recording = .opened → s.period.openInterval = some o → s.ctrl.state = .recording → s.ownRoom →
    s.link.queue.length < 7 →
    ∃ t o' r e, exec .minuteClose s = .next t ∧ t.period.lastOwn = some o.id ∧
      t.period.recording = .opened ∧ t.period.openInterval = some o' ∧ o'.id = now.nextMinute.interval ∧
      o'.minutesTaken = 0 ∧ o'.operating = 0 ∧ o'.abnormal = 0 ∧ o'.flags = {} ∧
      t.store.ownQueue[s.store.ownQueue.length]? = some (makeSlot .interval (intervalData r)) ∧
      r.origin = s.ctrl.station ∧ r.id = o.id ∧
      r.operating = o.operating + (if s.plant.operating then 1 else 0) ∧
      r.abnormal = o.abnormal + (if s.plant.abnormalFlag then 1 else 0) ∧
      r.fate = decideFate false r.operating r.abnormal ∧ r.flags.earlyClose = false ∧
      r.flags.isPartial = o.flags.isPartial ∧
      e ∈ t.link.queue ∧ e.kind = .mark ∧ e.sending = false ∧ e.payload = idBytes now.interval ∧
      e.deadline = e.offered + 10000000 ∧
      (∀ d, s.period.openDay = some d → d.day = now.dayId → o.id = now.interval → now.minute < 1439 →
        ∃ d', t.period.openDay = some d' ∧ d'.day = d.day ∧ d'.intervals = d.intervals + 1 ∧
          d'.operating = d.operating + r.operating ∧ d'.abnormal = d.abnormal + r.abnormal ∧
          d'.counted = d.counted + (if r.fate = .counted then 1 else 0) ∧
          d'.o2Sum = d.o2Sum + (if r.fate = .counted then r.o2Mean else 0) ∧
          d'.qsSum = d.qsSum + (if r.fate = .counted then r.qsMean else 0)) ∧
      (o.id.index ≠ 47 → t.period.summary.operating = s.period.summary.operating + r.operating ∧
        t.period.summary.abnormal = s.period.summary.abnormal + r.abnormal ∧
        t.period.summary.interrupted = s.period.summary.interrupted ∧
        t.period.summary.gapIntervals = s.period.summary.gapIntervals ∧
        t.period.summaryYear = s.period.summaryYear)) ∧
  (∀ (s : State) (now : StationTime) (cfg : ConfigImage) (o : OpenInterval) (d : OpenDay) (y : Nat),
    s.clock.time = some now → now.atRangeEnd = false → now.minute = 1439 → s.config? = some cfg →
    s.period.recording = .opened → s.period.openInterval = some o → o.id = now.interval →
    s.period.openDay = some d → s.period.summaryYear = some y → s.store.failed = false → s.store.ownQueue.length ≤ 4 →
    ∃ t r k, exec .minuteClose s = .next t ∧ r.id = o.id ∧
      t.store.ownQueue[s.store.ownQueue.length]? = some (makeSlot .interval (intervalData r)) ∧
      t.store.ownQueue[s.store.ownQueue.length + 1]? = some (makeSlot .day (dayData k)) ∧
      k.origin = s.ctrl.station ∧ k.day = d.day ∧ k.intervals = d.intervals + 1 ∧
      k.operating = d.operating + r.operating ∧ k.abnormal = d.abnormal + r.abnormal ∧
      k.flags = { noFlow := d.anyNoFlow || r.flags.noFlow,
                  shareSubstituted := d.anyShareSubstituted || r.flags.shareSubstituted,
                  isPartial := decide (d.intervals + 1 < 48) || d.anyPartial || r.flags.isPartial } ∧
      t.period.openDay = some { day := now.nextMinute.dayId } ∧
      (∀ (n : Nat) (cc : ComponentConfig) (x : IntervalEntry) (a : DayAcc), cfg.components[n]? = some (some cc) →
        r.components[n]? = some (some x) → d.components[n]? = some a → n < 8 →
        ∃ e, k.components[n]? = some (some e) ∧ e.mass = min (a.massSum + x.mass) 4294967295 ∧
          e.counted = d.counted + (if r.fate = .counted then 1 else 0) ∧
          e.valid = a.valid + (if r.fate = .counted ∧ x.status = .valid then 1 else 0) ∧
          e.notValid = e.counted - e.valid ∧
          (e.status = .notOperating ↔ e.counted = 0) ∧
          (e.status = .valid ↔ 1 ≤ e.counted ∧ 1 ≤ e.valid ∧ e.notValid ≤ cfg.dayAllowance) ∧
          (e.flags.exceeded = true ↔ e.status = .valid ∧ cc.dayLimit < e.mean) ∧
          (e.valid = 0 → e.mean = 0) ∧
          (0 < e.valid → e.mean = (roundDiv (a.validatedSum +
            (if r.fate = .counted ∧ x.status = .valid then x.validated else 0) : Nat) e.valid).toNat)) ∧
      (now.day = daysInYear now.year → ∃ u,
        t.store.ownQueue[s.store.ownQueue.length + 2]? = some (makeSlot .year1 (year1Data s.ctrl.station y u)) ∧
        t.store.ownQueue[s.store.ownQueue.length + 3]? = some (makeSlot .year2 (year2Data s.ctrl.station y u)) ∧
        u.operating = s.period.summary.operating + r.operating ∧ u.abnormal = s.period.summary.abnormal + r.abnormal ∧
        u.gapIntervals = s.period.summary.gapIntervals ∧ u.episodes = s.period.summary.episodes ∧
        u.cutoffs = s.period.summary.cutoffs ∧ u.interrupted = s.period.summary.interrupted ∧
        (∀ (n : Nat) (a : YearTotals) (x : IntervalEntry) (e : DayEntry), s.period.summary.components[n]? = some a →
          r.components[n]? = some (some x) → k.components[n]? = some (some e) → ∃ v, u.components[n]? = some v ∧
            v.counted = a.counted + (if r.fate = .counted then 1 else 0) ∧
            v.valid = a.valid + (if r.fate = .counted ∧ x.status = .valid then 1 else 0) ∧
            v.exceeding = a.exceeding + (if x.flags.exceeded then 1 else 0) ∧ v.mass = a.mass + x.mass ∧
            v.operatingDays = a.operatingDays + (if e.status = .notOperating then 0 else 1) ∧
            v.validDays = a.validDays + (if e.status = .valid then 1 else 0) ∧
            v.invalidDays = a.invalidDays + (if e.status = .invalid then 1 else 0) ∧
            v.exceedingDays = a.exceedingDays + (if e.flags.exceeded then 1 else 0)) ∧
        t.period.summaryYear = some (y + 1) ∧
        t.period.summary = { ({} : YearSummary) with cutoffs := t.period.summary.cutoffs }))

/-- R39, R40, R47: the period unit works only in RECORDING with time running; the open interval is the running interval and
lies after the last own interval id, so that no interval is recorded twice. Every step keeps this. -/
def Obligations.NoIntervalIsRecordedTwice : Prop :=
  ∀ s t : State, s.intervalsAdvance → step s = .next t → t.intervalsAdvance

/-! The plant signals. -/

/-- R68, R69, R70: in NORMAL a CLEAN assertion with FIRE active, or a FIRE assertion with CLEAN active, enters ABNORMAL: the
continuous count is cleared, the minute is abnormal, and ABN_BEGIN with the line as its cause and no carried minutes is
offered, the limits not being reached. In ABNORMAL a CLEAN or FIRE negation ends the episode: the machine is NORMAL, the
counts and the minute's abnormal flag stay, and ABN_END is offered. R115: a FIRE assertion sets the fire-seen flag. R65, R68,
R74: in NORMAL with CLEAN inactive, and in CUTOFF, a FIRE assertion does no more, but that in CUTOFF it makes the minute
abnormal when CLEAN is active, as a CLEAN assertion does when FIRE is. R65: a FEED edge acts on its level and, asserted, on
the operating flag alone. -/
def Obligations.CleanBeginsAndEndsAnEpisode : Prop :=
  (∀ s : State, s.serving → s.plant.machine = .normal → s.plant.fire = true → s.plant.clean = false → s.ownRoom →
    0 < (s.config?.map (fun m => m.continuousLimit)).getD 240 →
    s.plant.yearCount < (s.config?.map (fun m => m.yearBudget)).getD 3600 →
    ∃ t, exec (.inputEdge .clean true) s = .next t ∧
      t.plant = { s.plant with clean := true, continuous := 0, abnormalFlag := true, machine := .abnormal,
                               permit := s.ctrl.state == .untimed || s.ctrl.state == .recording,
                               faultLine := s.ctrl.state != .recording || s.plant.recordLoss } ∧
      t.store = { s.store with ownQueue := s.store.ownQueue ++
        [makeSlot .notice (noticeData s.ctrl.station s.clock.time .abnBegin [BitVec.ofNat 8 Cause.clean.code, 0, 0])] } ∧
      t = { s with plant := t.plant, store := t.store, period := t.period } ∧
      t.period = { s.period with summary := { s.period.summary with episodes := t.period.summary.episodes } }) ∧
  (∀ s : State, s.serving → s.plant.machine = .abnormal → s.plant.clean = true → s.ownRoom →
    ∃ t, exec (.inputEdge .clean false) s = .next t ∧ t.plant.machine = .normal ∧ t.plant.clean = false ∧
      t.plant.continuous = s.plant.continuous ∧ t.plant.yearCount = s.plant.yearCount ∧
      t.plant.abnormalFlag = s.plant.abnormalFlag ∧
      t.store = { s.store with ownQueue := s.store.ownQueue ++ [makeSlot .notice
        (noticeData s.ctrl.station s.clock.time .abnEnd (be 1 Cause.clean.code ++ be 2 s.plant.continuous))] } ∧
      t = { s with plant := t.plant, store := t.store }) ∧
  (∀ s : State, s.serving → s.plant.machine = .normal → s.plant.clean = true → s.plant.fire = false → s.ownRoom →
    0 < (s.config?.map (fun m => m.continuousLimit)).getD 240 →
    s.plant.yearCount < (s.config?.map (fun m => m.yearBudget)).getD 3600 →
    ∃ t, exec (.inputEdge .fire true) s = .next t ∧
      t.plant = { s.plant with fire := true, continuous := 0, abnormalFlag := true, machine := .abnormal,
                               permit := s.ctrl.state == .untimed || s.ctrl.state == .recording,
                               faultLine := s.ctrl.state != .recording || s.plant.recordLoss } ∧
      t.store = { s.store with ownQueue := s.store.ownQueue ++
        [makeSlot .notice (noticeData s.ctrl.station s.clock.time .abnBegin [BitVec.ofNat 8 Cause.fire.code, 0, 0])] } ∧
      t = { s with plant := t.plant, store := t.store, period := t.period,
                   share := { s.share with fireSeen := true } } ∧
      t.period = { s.period with summary := { s.period.summary with episodes := t.period.summary.episodes } }) ∧
  (∀ s : State, s.serving → s.plant.machine = .abnormal → s.plant.fire = true → s.ownRoom →
    ∃ t, exec (.inputEdge .fire false) s = .next t ∧ t.plant.machine = .normal ∧ t.plant.fire = false ∧
      t.plant.continuous = s.plant.continuous ∧ t.plant.yearCount = s.plant.yearCount ∧
      t.plant.abnormalFlag = s.plant.abnormalFlag ∧
      t.store = { s.store with ownQueue := s.store.ownQueue ++ [makeSlot .notice
        (noticeData s.ctrl.station s.clock.time .abnEnd (be 1 Cause.fire.code ++ be 2 s.plant.continuous))] } ∧
      t = { s with plant := t.plant, store := t.store }) ∧
  (∀ s : State, s.plant.fire = false →
    s.plant.machine.isCutoff = true ∨ (s.plant.machine = .normal ∧ s.plant.clean = false) →
    exec (.inputEdge .fire true) s = .next { s with
      plant := { s.plant with
        fire := true, abnormalFlag := s.plant.abnormalFlag || (s.plant.machine.isCutoff && s.plant.clean) },
      share := { s.share with fireSeen := true } }) ∧
  (∀ s : State, s.plant.clean = false →
    s.plant.machine.isCutoff = true ∨ (s.plant.machine = .normal ∧ s.plant.fire = false) →
    exec (.inputEdge .clean true) s = .next { s with
      plant := { s.plant with
        clean := true, abnormalFlag := s.plant.abnormalFlag || (s.plant.machine.isCutoff && s.plant.fire) } }) ∧
  (∀ (s : State) (active : Bool), s.plant.feed = !active →
    exec (.inputEdge .feed active) s = .next { s with
      plant := { s.plant with feed := active, operating := s.plant.operating || active } })

/-- R73, R77: a TRIP assertion takes the machine to CUTOFF with cause TRIP from NORMAL and from ABNORMAL, holding the
continuous count, and PERMIT falls. -/
def Obligations.TripTakesTheMachineToCutoff : Prop :=
  ∀ s : State, s.serving → s.plant.machine.isCutoff = false → s.plant.trip = false →
    ∃ t, exec (.inputEdge .trip true) s = .next t ∧ t.plant.machine = .cutoff .trip ∧ t.plant.trip = true ∧
      t.plant.permit = false ∧ t.plant.continuous = s.plant.continuous ∧ t.plant.yearCount = s.plant.yearCount ∧
      t.plant.operating = s.plant.operating ∧ t.plant.abnormalFlag = s.plant.abnormalFlag ∧
      t = { s with plant := t.plant, store := t.store, period := t.period } ∧ t.store.die = s.store.die

/-- R67, R71: an untimed minute close counts the closing minute, starts a new 60 s, begins the next minute's flags, abnormal
(R65) in ABNORMAL or in CUTOFF with CLEAN and FIRE active, and leaves the closed-minute flags; in ABNORMAL the continuous
count rises, and a limit reached takes the machine to CUTOFF with cause LIMIT before BUDGET. R96: the waiting
entries whose deadlines lie before its end expire and are counted, and the others stay. That the time still missing passes
with the command is the model's choice (log entry 2). -/
def Obligations.UntimedMinuteIsCounted : Prop :=
  ∀ (s : State) (u : Nat), s.plant.untimed = some u →
    ∃ t, exec .untimedMinuteClose s = .next t ∧ t.plant.untimed = some 0 ∧ t.plant.operating = s.plant.feed ∧
      t.plant.abnormalFlag = (t.plant.machine == .abnormal || (t.plant.machine.isCutoff && s.plant.clean && s.plant.fire)) ∧
      t.plant.closedOperating = s.plant.closedOperating ∧ t.plant.closedAbnormal = s.plant.closedAbnormal ∧
      t.plant.yearCount = (if s.plant.abnormalFlag then min (s.plant.yearCount + 1) 65535 else s.plant.yearCount) ∧
      t.plant.continuous =
        (if s.plant.machine = .abnormal then min (s.plant.continuous + 1) 65535 else s.plant.continuous) ∧
      (s.plant.machine ≠ .abnormal → t.plant.machine = s.plant.machine) ∧
      (s.plant.machine = .abnormal → t.plant.machine =
        if (s.config?.map (fun m => m.continuousLimit)).getD 240 ≤ t.plant.continuous then .cutoff .limit
        else if (s.config?.map (fun m => m.yearBudget)).getD 3600 ≤ t.plant.yearCount then .cutoff .budget
        else .abnormal) ∧
      t.ctrl = s.ctrl ∧ t.intake = s.intake ∧ t.norm = s.norm ∧ t.mirror = s.mirror ∧ t.readout = s.readout ∧
      t.store.die = s.store.die ∧ s.link.expiresOver t.link (60000000 - u) ∧ t.clock.staged = s.clock.staged

/-- R74, R75: the machine stays in CUTOFF, with its cause, at every command but a RELEASE, a power-on reset and the end of
the start-up scan. -/
def Obligations.OnlyReleaseEndsCutoff : Prop :=
  ∀ (c : Instr) (cause : CutoffCause) (s t : State), s.plant.machine = .cutoff cause → exec c s = .next t →
    (∀ sender target payload, c ≠ .release sender target payload) →
    (∀ straps fire feed clean trip, c ≠ .powerOnReset straps fire feed clean trip) →
    (s.ctrl.state = .scan → ∀ erases headers, c ≠ .scanComplete erases headers) →
    t.plant.machine = .cutoff cause

/-- R77, R78: PERMIT and FAULT always stand as the manual decides them from the abnormal machine, the station state and the
record-loss mark; every step keeps this. -/
def Obligations.OutputLinesStayAsDecided : Prop :=
  ∀ s t : State, s.linesAgree → step s = .next t → t.linesAgree

/-! The plant link: receiving. -/

/-- R82, R83: a frame in assembly broken, by whatever cause, is counted once and the receiver waits for idle; the same holds
for what follows a complete frame before an idle. Outside an attempt of its own, the receiver is idle after 12 recessive bit
times, with no frame in assembly. -/
def Obligations.BrokenFrameWaitsForIdle : Prop :=
  (∀ (cause : BreakCause) (s : State), s.link.attempt = none → s.link.receiver ≠ .waitIdle →
    exec (.frameBroken cause) s = .next { s with
      link := { s.link with receiver := .waitIdle, characters := [],
                            receiveErrors := min (s.link.receiveErrors + 1) 65535 } }) ∧
  (∀ s : State, s.link.attempt = none →
    exec .lineIdle s = .next { s with link := { s.link with receiver := .idle, characters := [] } })

/-- R82, R83: while the receiver waits for idle, no frame is taken and none is counted: every command that carries a frame
leaves the station as it was. -/
def Obligations.NoFrameIsTakenBeforeIdle : Prop :=
  ∀ (c : Instr) (s : State), carriesFrame c = true → s.link.attempt = none → s.link.receiver = .waitIdle →
    exec c s = .next s

/-- R84, R85: a complete frame that fails a check is discarded and counted once as a receive error; a frame that passes its
checks under the station's own number, while the station was not sending, is discarded and counted as an address clash. -/
def Obligations.FailedChecksAndClashesAreCounted : Prop :=
  (∀ (characters : List Byte) (s : State), s.hearing → charactersPass characters = false →
    exec (.frameCheckFail characters) s = .next { s with
      link := { s.link with receiver := .afterFrame, characters := [],
                            receiveErrors := min (s.link.receiveErrors + 1) 65535 } }) ∧
  (∀ (kind target : Byte) (k : FrameKind) (payload : List Byte) (s : State), s.hearing → s.ctrl.station < 256 →
    frameKindOf kind.toNat = some k → frameAllowed k s.ctrl.station target.toNat payload = true →
    exec (.addressClash kind target payload) s = .next { s with
      link := { s.link with receiver := .afterFrame, characters := [],
                            addressClashes := min (s.link.addressClashes + 1) 65535 } })

/-- R86: of the frames that pass R84 and R85 the station accepts every broadcast, the requests to its own number, and
STATUS_REQ and TIME with target 0; every other is discarded without count. -/
def Obligations.TrafficForOthersIsDiscarded : Prop :=
  (∀ (station : Nat) (k : FrameKind) (target : Nat), acceptedHere station k target = true ↔
    k.frameClass = .broadcast ∨
      (k.frameClass = .request ∧ (target = station ∨ (target = 0 ∧ (k = .statusReq ∨ k = .time))))) ∧
  (∀ (kind sender target : Byte) (k : FrameKind) (payload : List Byte) (s : State), s.hearing →
    frameKindOf kind.toNat = some k → frameAllowed k sender.toNat target.toNat payload = true →
    sender.toNat ≠ s.ctrl.station → acceptedHere s.ctrl.station k target.toNat = false →
    exec (.trafficForAnotherNode kind sender target payload) s = .next s.frameOver)

/-! The plant link: sending. -/

/-- R88, R92: on an idle line an attempt begins with the waiting entry of the lowest kind code, the one offered first among
equal kinds; it becomes in transmission and nothing else changes. -/
def Obligations.AttemptCarriesTheQueueHead : Prop :=
  ∀ s : State, s.link.attempt = none → s.link.receiver = .idle → (∃ e ∈ s.link.queue, e.sending = false) →
    ∃ n e, s.link.queue[n]? = some e ∧ e.sending = false ∧
      (∀ m e', s.link.queue[m]? = some e' → e'.sending = false →
        e.kind.code < e'.kind.code ∨ (e.kind.code = e'.kind.code ∧ n ≤ m)) ∧
      exec .transmitAttemptStart s = .next { s with
        link := { s.link with attempt := some 0, receiver := .assembling, characters := [],
                              queue := s.link.queue.set n { e with sending := true } } }

/-- R89: a lost arbitration ends the attempt without error. The entry waits again in its place; R93: replaced by a newer one
it is removed uncounted; R96: past its deadline it is removed and counted as expired, where both hold too and at the
deadline itself by the model's choice (log entry 25). -/
def Obligations.LostArbitrationReturnsTheEntry : Prop :=
  ∀ (s : State) (bits : Nat) (l r : List TxEntry) (e : TxEntry), s.link.attempt = some bits →
    s.link.queue = l ++ e :: r → e.sending = true → (∀ x ∈ l, x.sending = false) → (∀ x ∈ r, x.sending = false) →
    (s.link.deadlineTimer < e.deadline → (∀ x ∈ l ++ r, x.replaces e = false) →
      exec .arbitrationLost s = .next { s with
        link := { s.link with attempt := none, queue := l ++ { e with sending := false } :: r } }) ∧
    (s.link.deadlineTimer < e.deadline → (∃ x ∈ l ++ r, x.replaces e = true) →
      exec .arbitrationLost s = .next { s with link := { s.link with attempt := none, queue := l ++ r } }) ∧
    (e.deadline ≤ s.link.deadlineTimer →
      exec .arbitrationLost s = .next { s with
        link := { s.link with
          attempt := none, queue := l ++ r, expiredFrames := min (s.link.expiredFrames + 1) 65535,
          resultMisses := min (s.link.resultMisses + if e.kind = .result then 1 else 0) 65535 } })

/-- R90: a transmit error ends the attempt, the entry's count and the link's rise by one, and the station's receiver waits
for idle without counting. Below its sixteenth error the entry waits again; at the sixteenth it is dropped, LINK_FAULT is
set, and a dropped RESULT is a result miss. The entry is within its deadline and not replaced. -/
def Obligations.TransmitErrorCountsAndDropsAtSixteen : Prop :=
  ∀ (s : State) (bits : Nat) (l r : List TxEntry) (e : TxEntry), s.link.attempt = some bits →
    s.link.queue = l ++ e :: r → e.sending = true → (∀ x ∈ l, x.sending = false) → (∀ x ∈ r, x.sending = false) →
    s.link.deadlineTimer < e.deadline → (∀ x ∈ l ++ r, x.replaces e = false) →
    (e.errors < 15 → exec .transmitError s = .next { s with
      link := { s.link with
        attempt := none, receiver := .waitIdle, characters := [],
        transmitErrors := min (s.link.transmitErrors + 1) 65535,
        queue := l ++ { e with sending := false, errors := e.errors + 1 } :: r } }) ∧
    (15 ≤ e.errors → exec .transmitError s = .next { s with
      link := { s.link with
        attempt := none, receiver := .waitIdle, characters := [], linkFault := true,
        transmitErrors := min (s.link.transmitErrors + 1) 65535, queue := l ++ r,
        resultMisses := min (s.link.resultMisses + if e.kind = .result then 1 else 0) 65535 } })

/-- R91: at the completion the entry is removed from the queue, the attempt ends, and LINK_FAULT is cleared, whichever entry
completed; nothing else of the queue and no other block changes. -/
def Obligations.CompletionRemovesTheEntry : Prop :=
  ∀ (s : State) (bits : Nat) (l r : List TxEntry) (e : TxEntry), s.link.attempt = some bits →
    s.link.queue = l ++ e :: r → e.sending = true → (∀ x ∈ l, x.sending = false) → (∀ x ∈ r, x.sending = false) →
    exec .transmitComplete s = .next { s with
      link := { s.link with attempt := none, receiver := .afterFrame, characters := [], linkFault := false,
                            queue := l ++ r } }

/-- R96: where no waiting entry stands past its deadline (which every step keeps: TransmitQueueStaysInOrder), the waiting entry
whose deadline comes first expires at its deadline: it is removed and counted, an expiring RESULT also as a result miss; every
other entry stays. That the time still missing passes with the command is the model's choice (log entry 2). -/
def Obligations.WaitingEntryExpires : Prop :=
  ∀ s : State, s.noneOverdue → (∃ e ∈ s.link.queue, e.sending = false) →
    ∃ t l r e, exec .entryExpired s = .next t ∧ s.link.queue = l ++ e :: r ∧ e.sending = false ∧
      (∀ x ∈ s.link.queue, x.sending = false → e.deadline ≤ x.deadline) ∧ t.link.queue = l ++ r ∧
      t.link.expiredFrames = min (s.link.expiredFrames + 1) 65535 ∧
      t.link.resultMisses = min (s.link.resultMisses + if e.kind = .result then 1 else 0) 65535 ∧
      t.link.deadlineTimer = e.deadline ∧
      t.link.linkFault = s.link.linkFault ∧ t.link.receiver = s.link.receiver ∧
      t.link.transmitErrors = s.link.transmitErrors ∧ t.link.receiveErrors = s.link.receiveErrors ∧
      t.link.addressClashes = s.link.addressClashes ∧
      t = { s with link := t.link, clock := t.clock, share := t.share, plant := t.plant }

/-- R88, R92 to R94: every step keeps the transmit queue in order: one entry at most in transmission and none outside an
attempt; at most one waiting MARK, one waiting LOAD and one waiting reply to each terminal; entries in the order of their
offering. It also holds only broadcasts and replies to the four terminals. R96: no waiting entry ever stands past its
deadline. -/
def Obligations.TransmitQueueStaysInOrder : Prop :=
  (∀ s t : State, s.oneSending → s.oneWaiting → s.offeringOrder → step s = .next t →
    t.oneSending ∧ t.oneWaiting ∧ t.offeringOrder) ∧
  (∀ s t : State, s.repliesAddressed → step s = .next t → t.repliesAddressed) ∧
  ∀ s t : State, s.noneOverdue → step s = .next t → t.noneOverdue

/-- R95, R132, R134: the transmit queue, the own record queue and the mirror intake queue never hold more than 8 entries. -/
def Obligations.QueuesNeverHoldMoreThanEight : Prop :=
  ∀ s t : State, s.queuesBounded → step s = .next t → t.queuesBounded

/-- R95: a full transmit queue that is in order and holds only broadcasts and replies to the four terminals always holds a
waiting RESULT, so that a MARK, a LOAD or a reply always finds room. -/
def Obligations.FullQueueHoldsAWaitingResult : Prop :=
  ∀ s : State, s.oneSending → s.oneWaiting → (∀ e ∈ s.link.queue, e.regular) → 8 ≤ s.link.queue.length →
    ∃ e ∈ s.link.queue, e.kind = .result ∧ e.sending = false

/-! Boundary marks and TIME. -/

/-- R103, R106, R101, R67, R18: in UNTIMED a MARK with a usable id sets the clock to the first second of the interval after
it, and the station enters RECORDING; the MARK's id is the last closed interval, the accumulators restart, the untimed timer
stops, and the lines follow. R40, R41: the interval that begins is opened, empty and not PARTIAL, when it lies after the
last own interval id, and the period unit waits otherwise; intervals between the two are a gap, and R42: its GAP notice with
the first and last id and their number is offered, at the station time set. R147: the day index year becomes the year set
when that is later. -/
def Obligations.MarkAcquiresTimeInUntimed : Prop :=
  ∀ (sender target : Byte) (payload : List Byte) (s : State), s.receives .mark sender target payload →
    s.ctrl.state = .untimed → usableMark (markId payload) = true →
    ∃ t, exec (.mark sender target payload) s = .next t ∧
      t.clock = { s.clock with
        time := some { year := (markId payload).nextInterval.year, day := (markId payload).nextInterval.day,
                       minute := (markId payload).nextInterval.index * 30, micros := 0 },
        minuteLength := 60, staged := none, lastClosed := some { id := markId payload, elapsed := 0 } } ∧
      t.ctrl = { s.ctrl with state := .recording } ∧
      (∀ e ∈ t.intake.channels, e.acc = { returnMark := e.acc.returnMark }) ∧ t.plant.untimed = none ∧
      t.share = { s.share with fireSeen := s.plant.fire } ∧
      t.plant.permit = !t.plant.machine.isCutoff ∧ t.plant.faultLine = t.plant.recordLoss ∧
      t.link = s.frameOver.link ∧ t.norm = s.norm ∧ t.mirror = s.mirror ∧ t.readout = s.readout ∧
      t.store.die = s.store.die ∧
      ((∀ l, s.period.lastOwn = some l → l.before (markId payload).nextInterval = true) →
        t.period.recording = .opened ∧ ∃ o, t.period.openInterval = some o ∧ o.id = (markId payload).nextInterval ∧
          o.minutesTaken = 0 ∧ o.operating = 0 ∧ o.abnormal = 0 ∧ o.flags = {}) ∧
      (∀ l, s.period.lastOwn = some l → l.before (markId payload).nextInterval = false → t.period.recording = .waiting) ∧
      (∀ l, s.period.lastOwn = some l → l.before (markId payload).nextInterval = true →
        intervalNumber l + 1 < intervalNumber (markId payload).nextInterval →
        s.store.failed = false → s.store.ownQueue.length ≤ 2 →
        makeSlot .notice (noticeData s.ctrl.station t.clock.time .gap
          (idBytes l.nextInterval ++ idBytes (markId payload).nextInterval.previousInterval ++
            be 4 (intervalNumber (markId payload).nextInterval - intervalNumber l - 1))) ∈ t.store.ownQueue) ∧
      (s.store.indexYear = none → t.store.indexYear = some (markId payload).nextInterval.year) ∧
      (∀ y, s.store.indexYear = some y → t.store.indexYear = some (max y (markId payload).nextInterval.year))

/-- R104: a usable MARK taken in RECORDING. The running interval with at most 20 s remaining is closed early, its record
marked EARLY_CLOSE (R105), and no MARK of the station's own is offered for it; with more than 20 s remaining it is a
disagreement; the last closed interval no more than 20 s after its close is ignored; any other id is a disagreement. -/
def Obligations.MarkIsDecidedInRecording : Prop :=
  ∀ (sender target : Byte) (payload : List Byte) (now : StationTime) (s : State), s.receives .mark sender target payload →
    s.ctrl.state = .recording → s.clock.time = some now → usableMark (markId payload) = true →
    (markId payload = now.interval → now.minute % 30 = 29 →
      s.clock.minuteLength * 1000000 - now.micros ≤ 20000000 →
      ∃ t, exec (.mark sender target payload) s = .next t ∧ t.clock.time = some now.nextMinute ∧
        t.clock.lastClosed = some { id := markId payload, elapsed := 0 } ∧
        t.clock.disagreements = s.clock.disagreements ∧
        (∀ e ∈ t.link.queue, e.kind = .mark → e ∈ s.link.queue) ∧
        ∀ cfg o, s.config? = some cfg → s.period.recording = .opened → s.period.openInterval = some o → s.ownRoom →
          ∃ r, makeSlot .interval (intervalData r) ∈ t.store.ownQueue ∧ r.id = o.id ∧ r.origin = s.ctrl.station ∧
            r.flags.earlyClose = true) ∧
    (markId payload = now.interval →
      (now.minute % 30 ≠ 29 ∨ 20000000 < s.clock.minuteLength * 1000000 - now.micros) →
      exec (.mark sender target payload) s = .next { s.frameOver with
        clock := { s.clock with disagreements := min (s.clock.disagreements + 1) 65535 } }) ∧
    (markId payload ≠ now.interval →
      (∃ l, s.clock.lastClosed = some l ∧ l.id = markId payload ∧ l.elapsed ≤ 20000000) →
      exec (.mark sender target payload) s = .next s.frameOver) ∧
    (markId payload ≠ now.interval →
      (∀ l, s.clock.lastClosed = some l → l.id = markId payload → 20000000 < l.elapsed) →
      exec (.mark sender target payload) s = .next { s.frameOver with
        clock := { s.clock with disagreements := min (s.clock.disagreements + 1) 65535 } })

/-- R108 to R110, R112: a TIME request with a target that passes the check sets the clock in SETUP and in UNTIMED, where the
station enters RECORDING; in RECORDING the difference in whole seconds, within −30 to +30, becomes the staged adjustment, and
a difference of 0 stages nothing. Each is answered DONE. -/
def Obligations.TimeRequestSetsOrStages : Prop :=
  ∀ (sender target : Byte) (payload : List Byte) (s : State), s.receives .time sender target payload →
    targetTimeOk (timeFields payload) = true → s.link.queue.length < 8 →
    (s.ctrl.state = .untimed → ∃ t, exec (.time sender target payload) s = .next t ∧
      t.clock = { s.clock with time := some (timeFields payload).toTime, minuteLength := 60, staged := none,
                               lastClosed := none } ∧
      t.ctrl = { s.ctrl with state := .recording } ∧ t.plant.untimed = none ∧
      t.answers s.frameOver.link .time sender.toNat .done) ∧
    (s.ctrl.state = .setup → ∃ t, exec (.time sender target payload) s = .next t ∧
      t.clock = { s.clock with time := some (timeFields payload).toTime, minuteLength := 60, staged := none,
                               lastClosed := none } ∧
      t.ctrl = s.ctrl ∧ t.plant.untimed = none ∧ t.period.recording = s.period.recording ∧
      t.answers s.frameOver.link .time sender.toNat .done) ∧
    (∀ now : StationTime, s.ctrl.state = .recording → s.clock.time = some now →
      ∃ t d, exec (.time sender target payload) s = .next t ∧
        d = ((timeFields payload).toTime.wholeSeconds : Int) - now.wholeSeconds ∧
        (d = 0 → t.clock = { s.clock with staged := none }) ∧
        (d ≠ 0 → t.clock = { s.clock with
          staged := some { applied := max (-30) (min 30 d), requested := max (-2147483647) (min 2147483647 d),
                           terminal := sender.toNat } }) ∧
        t = { s with clock := t.clock, link := t.link } ∧ t.answers s.frameOver.link .time sender.toNat .done)

/-! Load sharing. -/

/-- R118: a LOAD whose contents pass and whose group is that in force, or with no configuration in force, is compared with
the sender's entry: an absent entry takes it alone; a later minute moves the latest report to the previous one; any other is
discarded. The sender's entry is the only one that changes. -/
def Obligations.LoadReportIsTakenByTheSendersEntry : Prop :=
  ∀ (sender target : Byte) (payload : List Byte) (r : LoadReport) (s : State), s.receives .load sender target payload →
    s.ctrl.state ≠ .failed → loadReport (loadFields payload) = some r →
    (∀ m, s.config? = some m → m.stackGroup = (loadFields payload).group) → s.share.entries.length = 8 →
    ∃ t, exec (.load sender target payload) s = .next t ∧
      (s.share.entry sender.toNat = none → t.share.entry sender.toNat =
        some { group := (loadFields payload).group, latest := r, previous := none, age := 0 }) ∧
      (∀ e, s.share.entry sender.toNat = some e → minuteNumber e.latest.minute < minuteNumber r.minute →
        t.share.entry sender.toNat =
          some { group := (loadFields payload).group, latest := r, previous := some e.latest, age := 0 }) ∧
      (∀ e, s.share.entry sender.toNat = some e → minuteNumber r.minute ≤ minuteNumber e.latest.minute →
        t.share.entry sender.toNat = some e) ∧
      (∀ n, 1 ≤ n → n ≠ sender.toNat → t.share.entry n = s.share.entry n) ∧
      t.share.fireSeen = s.share.fireSeen ∧ t.share.lastShare = s.share.lastShare ∧
      t = { s.frameOver with share := t.share }

/-- R120: a present entry whose age reaches 3,600 s ceases to be present, and so does an older one; every other entry keeps its
reports. R96: the waiting entries of the transmit queue whose deadlines lie before that moment expire and are counted, and the
others stay. An entry into which a report was written at the same moment has its age restarted at 0 and does not expire. That the time still missing
passes with the command, and that a command which finds an age of 0 changes nothing, are the model's choices (log entry
2). -/
def Obligations.OldLoadEntryCeasesToBePresent : Prop :=
  (∀ (n : Fin 8) (e : ShareEntry) (s : State), s.share.entry (n.val + 1) = some e → e.age = 0 →
    exec (.loadEntryAgeOut n) s = .next s) ∧
  ∀ (n : Fin 8) (e : ShareEntry) (s : State), s.share.entry (n.val + 1) = some e → 0 < e.age →
    ∃ t, exec (.loadEntryAgeOut n) s = .next t ∧ t.share.entry (n.val + 1) = none ∧
      (∀ m x, 1 ≤ m → m ≠ n.val + 1 → s.share.entry m = some x → x.age ≤ e.age → x.age ≤ 3600000000 →
        ∃ y, t.share.entry m = some y ∧ y.latest = x.latest ∧ y.previous = x.previous ∧ y.group = x.group) ∧
      (∀ m x, 1 ≤ m → s.share.entry m = some x → e.age < x.age → t.share.entry m = none) ∧
      (∀ m, 1 ≤ m → s.share.entry m = none → t.share.entry m = none) ∧
      t.link.deadlineTimer = s.link.deadlineTimer + (3600000000 - e.age) ∧
      s.link.expiresOver t.link (3600000000 - e.age) ∧
      t = { s with link := t.link, clock := t.clock, share := t.share, plant := t.plant }

/-- R121, R123: a valid share is what the own report for m − 1 and the peers make it: L_total is L_own and the loads
counted, above 0, and L_own never exceeds it. R116, R117, R123: at a minute close with a stack group in force the share so
decided is kept as the last share; the own report is STOPPED with the fire-seen flag clear, OPERATING with the load's mean
when the load channel's minute is VALID, INVALID otherwise; it becomes the latest report of the own entry, before the former
latest; no other entry's reports change; and in RECORDING it is offered as a LOAD due in 30 s. R120: entries whose age reaches
3,600 s before the minute's end are present no more, and are counted in no share. R96: out of RECORDING the queue is as the
time up to the minute's end leaves it. That the time still missing
passes with the command (log entry 2), and which report is meant when both of the own entry are for m − 1 (log entry 46),
are the model's choices. -/
def Obligations.OwnLoadNeverExceedsTheTotal : Prop :=
  (∀ (u : ShareUnit) (station : Nat) (m : MinuteId) (x : Share), decideShare u station m = some x →
    x.own ≤ x.total ∧ 0 < x.total ∧
      ∃ e r, u.entry station = some e ∧ ownReportFor m e = some r ∧ r.status ≠ .invalid ∧
        x.own = (if r.status = .operating then r.load else 0) ∧
        x.total = x.own + ((peerContributions u station m).map (fun p => p.1)).sum) ∧
  (∀ (u : ShareUnit) (dt n : Nat), (u.advance dt).entry n = (u.entry n).bind (fun e =>
    if e.age + dt ≤ 3600000000 then some { e with age := e.age + dt } else none)) ∧
  ∀ (s : State) (now : StationTime) (cfg : ConfigImage), s.clock.time = some now → now.atRangeEnd = false →
    s.config? = some cfg → cfg.stackGroup ≠ 0 → s.share.entries.length = 8 → 1 ≤ s.ctrl.station → s.ctrl.station ≤ 8 →
    s.link.queue.length < 7 →
    ∃ t r u, exec .minuteClose s = .next t ∧ u = s.share.advance (s.clock.missing now) ∧
      t.share.lastShare = decideShare u s.ctrl.station now.minuteId ∧
      t.share.entry s.ctrl.station = some { group := cfg.stackGroup, latest := r, age := 0,
                                            previous := (u.entry s.ctrl.station).map (fun e => e.latest) } ∧
      r.minute = now.minuteId ∧ (s.share.fireSeen = false → r.status = .stopped ∧ r.load = 0) ∧
      (∀ ch e, s.share.fireSeen = true → cfg.load = some ch → s.intake.channels[ch]? = some e →
        (∀ m : Nat, (e.minuteValue cfg.minReadings).state = .valid → e.acc.mean = some (m : Int) →
          r.status = .operating ∧ r.load = m) ∧
        ((e.minuteValue cfg.minReadings).state ≠ .valid → r.status = .invalid ∧ r.load = 0)) ∧
      (∀ n, 1 ≤ n → n ≠ s.ctrl.station → t.share.entry n = u.entry n) ∧
      (s.ctrl.state = .recording → ∃ e ∈ t.link.queue, e.kind = .load ∧ e.sending = false ∧ e.target = 0 ∧
        e.payload = be 1 cfg.stackGroup ++ minuteIdBytes now.minuteId ++ be 3 r.load ++ be 1 r.status.code ∧
        e.deadline = e.offered + 30000000) ∧
      (s.ctrl.state ≠ .recording → s.link.expiresOver t.link (s.clock.missing now))

/-! Partner mirroring. -/

/-- R160 to R162: a RESULT of a partner that passes its content check and lies after the last id of its kind: the last id
becomes its id, the ids skipped are added to the gap count, and the record joins the mirror intake queue, or is dropped with
one more in the count, after the ids skipped, when the area is STALLED or the queue full. The kind is that of the spare
bytes, also where the data's kind byte disagrees, by the model's choice (log entry 35). -/
def Obligations.PartnerResultIsQueuedForMirroring : Prop :=
  ∀ (sender target : Byte) (payload : List Byte) (s : State), s.receives .result sender target payload → s.serving →
    resultContentOk sender.toNat (resultSlot payload) = true → s.config.partners.contains sender.toNat = true →
    newRecord (s.mirror.origin sender.toNat) (resultSlot payload).kind (mirrorId (resultSlot payload)) = true →
    s.mirror.origins.length = 8 →
    ∃ t, exec (.result sender target payload) s = .next t ∧
      (t.mirror.origin sender.toNat).lastOf (resultSlot payload).kind = some (mirrorId (resultSlot payload)) ∧
      (∀ n, 1 ≤ n → n ≠ sender.toNat → t.mirror.origin n = s.mirror.origin n) ∧
      (s.store.mirrorStalled = false → s.store.mirrorQueue.length < 8 →
        t.store = { s.store with mirrorQueue := s.store.mirrorQueue ++ [resultSlot payload] } ∧
        ((s.mirror.origin sender.toNat).lastOf (resultSlot payload).kind = none →
          (t.mirror.origin sender.toNat).gap = min (s.mirror.origin sender.toNat).gap 65535) ∧
        ∀ l, (s.mirror.origin sender.toNat).lastOf (resultSlot payload).kind = some l →
          (t.mirror.origin sender.toNat).gap = min ((s.mirror.origin sender.toNat).gap +
            skipped (resultSlot payload).kind l (mirrorId (resultSlot payload))) 65535) ∧
      (s.store.mirrorStalled = true ∨ 8 ≤ s.store.mirrorQueue.length →
        t.store = s.store ∧
        ((s.mirror.origin sender.toNat).lastOf (resultSlot payload).kind = none →
          (t.mirror.origin sender.toNat).gap = min ((s.mirror.origin sender.toNat).gap + 1) 65535) ∧
        ∀ l, (s.mirror.origin sender.toNat).lastOf (resultSlot payload).kind = some l →
          (t.mirror.origin sender.toNat).gap = min (min ((s.mirror.origin sender.toNat).gap +
            skipped (resultSlot payload).kind l (mirrorId (resultSlot payload))) 65535 + 1) 65535) ∧
      t = { s.frameOver with mirror := t.mirror, store := t.store }

/-- R159: a RESULT whose sender is not in the partner set in force is ignored: it is counted nowhere and changes no origin
entry. With no configuration in force the partner set is empty and every RESULT is ignored. -/
def Obligations.ResultOfANonPartnerIsIgnored : Prop :=
  ∀ (sender target : Byte) (payload : List Byte) (s : State), s.receives .result sender target payload →
    (∀ m, s.config? = some m → sender.toNat ∉ m.partners) → exec (.result sender target payload) s = .next s.frameOver

/-! The record store. -/

/-- R131, R133: with nothing before it in the order of work, the idle programmer takes the own queue head: it begins to
program it at the fill point of OPEN_OWN, and nothing else changes. -/
def Obligations.ProgrammerTakesTheOwnHead : Prop :=
  ∀ (s : State) (b : Nat), s.headsTurn → s.store.ownQueue ≠ [] → s.store.ownStalled = false →
    s.store.openBlock .own = some b → (s.block b).owed = false → s.store.erasedList ≠ [] →
    exec .programmerStart s = .next { s with
      store := { s.store with programmer := some (.programHead .own b (s.block b).fill) } }

/-- R133, R142: the program of the own queue head. PASS: the record stands in its slot, leaves the queue, its block's fill
point follows it, the record-loss mark is cleared, and an interval, day or YEAR record is offered for broadcast. FAIL: the
slot is VOID, the record stays at the head of its queue, and a relocation of the block begins. Every other slot of the die,
the rest of the queue and, with no relocation in progress, every other block of the table are as they were either way. That a failed program leaves its slot
VOID is the model's reading (log entry 26). R148: the record sets the day-index entry of its origin and day when it has none
and its year and origin are indexed. R134, R142, R163: the program of the mirror queue head does the same in the mirror
area, but broadcasts nothing, and its PASS sets the origin's stored id of the record's kind; with a relocation context
present its FAIL begins no second relocation: the record is dropped with one more in its origin's gap count and the block is
FULL_MIRROR. That an own FAIL which finds a MIRROR relocation waiting for a record in phase RECORD gives that one up, its
source FULL_MIRROR and its target RETIRED and on the cleanup list, is the model's choice (log entries 48 and 53). That a
RETIRED block keeps the rest of its entry is its choice too (log entry 54). That the programmer is idle after each completion is the model's choice (log entry 39). -/
def Obligations.OwnRecordIsProgrammedOrRelocated : Prop :=
  (∀ (s : State) (b n : Nat) (e : BlockEntry) (r : SlotImage) (rest : List SlotImage),
    s.store.programmer = some (.programHead .own b n) → s.store.ownQueue = r :: rest → s.store.blocks[b]? = some e →
    (∃ t, exec (.slotProgramComplete true) s = .next t ∧ t.store.programmer = none ∧
      dieRead t.store.die (slotAddress b n) = some (.image r) ∧
      (∀ a, a ≠ slotAddress b n → dieRead t.store.die a = dieRead s.store.die a) ∧
      t.store.ownQueue = rest ∧ t.store.mirrorQueue = s.store.mirrorQueue ∧ (t.block b).fill = n + 1 ∧
      (∀ m, m ≠ b → t.store.blocks[m]? = s.store.blocks[m]?) ∧ t.plant.recordLoss = false ∧
      (isBroadcastKind r = true → s.link.queue.length < 8 → t.link = { s.link with queue := s.link.queue ++
        [{ kind := .result, target := 0, payload := r.data ++ r.spare, terminal := none,
           offered := s.link.deadlineTimer, deadline := s.link.deadlineTimer + 600000000 }] }) ∧
      (isBroadcastKind r = false → t.link = s.link) ∧
      (∀ d y, r.date = some d → s.store.indexYear = some y → (d.year = y ∨ d.year + 1 = y) →
        (r.origin = s.ctrl.station ∨ r.origin ∈ s.config.partners) →
        (∀ x ∈ s.store.index, x.origin = r.origin → x.day ≠ d) →
        t.store.index = s.store.index ++ [{ origin := r.origin, day := d, block := b, slot := n }]) ∧
      ((∀ d, r.date = some d → ∃ x ∈ s.store.index, x.origin = r.origin ∧ x.day = d) →
        t.store.index = s.store.index) ∧
      t = { s with store := t.store, plant := t.plant, link := t.link }) ∧
    (∃ t, exec (.slotProgramComplete false) s = .next t ∧ t.store.programmer = none ∧
      dieRead t.store.die (slotAddress b n) = some .void ∧
      (∀ a, a ≠ slotAddress b n → dieRead t.store.die a = dieRead s.store.die a) ∧
      t.store.ownQueue = s.store.ownQueue ∧ t.store.mirrorQueue = s.store.mirrorQueue ∧
      (t.block b).state = .relocating ∧ (t.block b).fill = n + 1 ∧
      (s.store.relocation = none →
        (∀ m, m ≠ b → t.store.blocks[m]? = s.store.blocks[m]?) ∧ t.store.cleanup = s.store.cleanup) ∧
      (∀ w target x y, s.store.relocation = some w → w.area = .mirror → w.phase = .record → w.target = some target →
        w.source ≠ b → target ≠ b → target ≠ w.source →
        s.store.blocks[w.source]? = some x → s.store.blocks[target]? = some y →
        t.store.blocks[w.source]? = some { x with state := .fullMirror } ∧
        t.store.blocks[target]? = some { y with state := .retired } ∧
        t.store.cleanup = s.store.cleanup ++ [{ block := target }] ∧
        ∀ m, m ≠ b → m ≠ w.source → m ≠ target → t.store.blocks[m]? = s.store.blocks[m]?) ∧
      t.store.relocation = some { area := .own, source := b, sourceSequence := e.sequence, recordSlot := n } ∧
      t.store.relocations = min (s.store.relocations + 1) 65535 ∧ t = { s with store := t.store })) ∧
  (∀ (s : State) (b n : Nat) (e : BlockEntry) (r : SlotImage) (rest : List SlotImage),
    s.store.programmer = some (.programHead .mirror b n) → s.store.mirrorQueue = r :: rest →
    s.store.blocks[b]? = some e → 1 ≤ r.origin → r.origin ≤ 8 → s.mirror.origins.length = 8 →
    (∃ t, exec (.slotProgramComplete true) s = .next t ∧ t.store.programmer = none ∧
      dieRead t.store.die (slotAddress b n) = some (.image r) ∧
      (∀ a, a ≠ slotAddress b n → dieRead t.store.die a = dieRead s.store.die a) ∧
      t.store.mirrorQueue = rest ∧ t.store.ownQueue = s.store.ownQueue ∧ (t.block b).fill = n + 1 ∧
      (∀ m, m ≠ b → t.store.blocks[m]? = s.store.blocks[m]?) ∧
      (∀ d y, r.date = some d → s.store.indexYear = some y → (d.year = y ∨ d.year + 1 = y) →
        (r.origin = s.ctrl.station ∨ r.origin ∈ s.config.partners) →
        (∀ x ∈ s.store.index, x.origin = r.origin → x.day ≠ d) →
        t.store.index = s.store.index ++ [{ origin := r.origin, day := d, block := b, slot := n }]) ∧
      ((∀ d, r.date = some d → ∃ x ∈ s.store.index, x.origin = r.origin ∧ x.day = d) →
        t.store.index = s.store.index) ∧
      (∀ m, 1 ≤ m → m ≠ r.origin → t.mirror.origin m = s.mirror.origin m) ∧
      (r.kind = some .interval →
        t.mirror.origin r.origin = { s.mirror.origin r.origin with storedInterval := some r.id }) ∧
      (r.kind = some .day → t.mirror.origin r.origin = { s.mirror.origin r.origin with storedDay := some r.id.toDay }) ∧
      (r.kind = some .year1 →
        t.mirror.origin r.origin = { s.mirror.origin r.origin with storedYear1 := some (yearId r.id.year) }) ∧
      (r.kind = some .year2 →
        t.mirror.origin r.origin = { s.mirror.origin r.origin with storedYear2 := some (yearId r.id.year) }) ∧
      t = { s with store := t.store, mirror := t.mirror }) ∧
    (∃ t, exec (.slotProgramComplete false) s = .next t ∧ t.store.programmer = none ∧
      dieRead t.store.die (slotAddress b n) = some .void ∧
      (∀ a, a ≠ slotAddress b n → dieRead t.store.die a = dieRead s.store.die a) ∧
      (∀ m, m ≠ b → t.store.blocks[m]? = s.store.blocks[m]?) ∧ t.store.ownQueue = s.store.ownQueue ∧
      (s.store.relocation = none → t.store.mirrorQueue = s.store.mirrorQueue ∧ (t.block b).state = .relocating ∧
        t.store.relocation = some { area := .mirror, source := b, sourceSequence := e.sequence, recordSlot := n } ∧
        t.store.relocations = min (s.store.relocations + 1) 65535 ∧ t.mirror = s.mirror) ∧
      (s.store.relocation ≠ none → t.store.mirrorQueue = rest ∧ (t.block b).state = .fullMirror ∧
        (t.block b).fill = n + 1 ∧ t.store.relocation = s.store.relocation ∧
        t.store.relocations = s.store.relocations ∧ t.mirror.origin r.origin =
          { s.mirror.origin r.origin with gap := min ((s.mirror.origin r.origin).gap + 1) 65535 } ∧
        ∀ m, 1 ≤ m → m ≠ r.origin → t.mirror.origin m = s.mirror.origin m) ∧
      t = { s with store := t.store, mirror := t.mirror }))

/-- R139: the erase of a candidate. PASS: every slot of the block is erased, the block is ERASED with nothing recorded of it
and joins the back of the erased list. FAIL: the block is RETIRED. Every slot of another block is as it was either way. That
the programmer is idle after the completion (log entry 39), and that a FAIL clears the erasing mark (log entry 51), are the
model's choices. -/
def Obligations.EraseCompletionFreesOrRetiresTheBlock : Prop :=
  ∀ (s : State) (b : Nat) (e : BlockEntry), s.store.programmer = some (.erase b .candidate) →
    s.store.blocks[b]? = some e →
    (∃ t, exec (.blockEraseComplete true) s = .next t ∧ t.store.programmer = none ∧
      (∀ a, a / 1024 = b → dieRead t.store.die a = none) ∧
      (∀ a, a / 1024 ≠ b → dieRead t.store.die a = dieRead s.store.die a) ∧
      t.store.blocks = s.store.blocks.set b { state := .erased } ∧
      t.store.erasedList = s.store.erasedList ++ [b] ∧ t = { s with store := t.store }) ∧
    (∃ t, exec (.blockEraseComplete false) s = .next t ∧ t.store.programmer = none ∧
      (∀ a, a / 1024 ≠ b → dieRead t.store.die a = dieRead s.store.die a) ∧
      t.store.blocks = s.store.blocks.set b { e with state := .retired, erasing := false } ∧
      t.store.erasedList = s.store.erasedList ∧ t = { s with store := t.store, freeCount := t.freeCount })

/-- R143, R146: a slot copy of a relocation. PASS: the target slot of the same number holds what the source slot held, and
the copy position moves on. FAIL: the target slot is VOID, the target is RETIRED and joins the cleanup list, and the
relocation returns to phase TARGET. Every other slot is as it was either way. R144, R146: the relocated record programmed
with PASS stands in the target and leaves its queue, and phase COPY_END follows; COPY_END programmed with PASS makes the
target the area's OPEN block, or FULL when no slot is left, with both blocks' dates; the index entries of the source are
moved to it, and the source is RETIRED and joins the cleanup list. A FAIL of either abandons the target like a copy's. R145:
the erase of the front block of the cleanup list leaves its header to be programmed, or at a FAIL ends the block's cleanup,
as its RETIRED header does either way; the last block of the list ends a relocation in phase CLEANUP. What becomes of a
record whose target is abandoned after it left its queue is the model's choice (log entry 48), and so is that a withdrawn
block keeps every other field of its entry, its dates too when its cleanup erase ends (log entry 54). The program of the
target's header (R143, R146) is not among the operations stated here. That a failed copy or program
leaves its slot VOID is the model's reading (log entry 26), and that the programmer is idle after each completion its choice
(log entry 39). -/
def Obligations.SlotCopyFillsOrAbandonsTheTarget : Prop :=
  (∀ (s : State) (src tgt n : Nat) (c : SlotContent) (e : BlockEntry) (r : Relocation),
    s.store.programmer = some (.copy src tgt n) → s.store.relocation = some r →
    dieRead s.store.die (slotAddress src n) = some c → s.store.blocks[tgt]? = some e →
    (∃ t, exec (.slotCopyComplete true) s = .next t ∧ t.store.programmer = none ∧
      dieRead t.store.die (slotAddress tgt n) = some c ∧
      (∀ a, a ≠ slotAddress tgt n → dieRead t.store.die a = dieRead s.store.die a) ∧
      (∃ r', t.store.relocation = some r' ∧ r'.copyPosition = n + 1 ∧ r'.source = r.source ∧ r'.target = r.target ∧
        r'.recordSlot = r.recordSlot ∧ r'.phase =
          if n + 1 < r.recordSlot then .copying else if r.recordSlot = 1023 then .copyEnd else .record) ∧
      t = { s with store := t.store }) ∧
    (∃ t, exec (.slotCopyComplete false) s = .next t ∧ t.store.programmer = none ∧
      dieRead t.store.die (slotAddress tgt n) = some .void ∧
      (∀ a, a ≠ slotAddress tgt n → dieRead t.store.die a = dieRead s.store.die a) ∧
      (∃ r', t.store.relocation = some r' ∧ r'.phase = .target ∧ r'.target = none ∧ r'.source = r.source ∧
        r'.recordSlot = r.recordSlot) ∧
      (t.block tgt).state = .retired ∧ t.store.cleanup = s.store.cleanup ++ [{ block := tgt }] ∧
      t = { s with store := t.store })) ∧
  (∀ (s : State) (b n : Nat) (e : BlockEntry) (r : Relocation) (head : SlotImage) (rest : List SlotImage),
    s.store.programmer = some (.programRecord b n) → s.store.relocation = some r →
    s.store.queue r.area = head :: rest → s.store.blocks[b]? = some e →
    ∃ t, exec (.slotProgramComplete true) s = .next t ∧ t.store.programmer = none ∧
      dieRead t.store.die (slotAddress b n) = some (.image head) ∧
      (∀ a, a ≠ slotAddress b n → dieRead t.store.die a = dieRead s.store.die a) ∧
      t.store.queue r.area = rest ∧ t.store.relocation = some { r with phase := .copyEnd } ∧
      (t.block b).fill = n + 1 ∧ (t.block b).state = e.state ∧
      (∀ m, m ≠ b → t.store.blocks[m]? = s.store.blocks[m]?)) ∧
  (∀ (s : State) (b n : Nat) (src e : BlockEntry) (r : Relocation),
    s.store.programmer = some (.programCopyEnd b n) → s.store.relocation = some r → r.source ≠ b →
    s.store.blocks[r.source]? = some src → s.store.blocks[b]? = some e →
    ∃ t, exec (.slotProgramComplete true) s = .next t ∧ t.store.programmer = none ∧
      dieRead t.store.die (slotAddress b n) =
        some (.image (makeSlot .copyEnd (copyEndData r.sourceSequence r.recordSlot))) ∧
      (∀ a, a ≠ slotAddress b n → dieRead t.store.die a = dieRead s.store.die a) ∧
      t.block b = { e with state := if 1023 ≤ n then r.area.fullState else r.area.openState, fill := n + 1,
                           oldest := earlierDate src.oldest e.oldest, newest := laterDate src.newest e.newest } ∧
      t.block r.source = { src with state := .retired } ∧
      (∀ m, m ≠ b → m ≠ r.source → t.store.blocks[m]? = s.store.blocks[m]?) ∧
      t.store.index = s.store.index.map (fun x => if x.block = r.source then { x with block := b } else x) ∧
      t.store.cleanup = s.store.cleanup ++ [{ block := r.source }] ∧
      t.store.relocation = some { r with phase := .cleanup } ∧ t = { s with store := t.store }) ∧
  (∀ (s : State) (b n : Nat) (e : BlockEntry) (r : Relocation),
    s.store.programmer = some (.programRecord b n) ∨ s.store.programmer = some (.programCopyEnd b n) →
    s.store.relocation = some r → s.store.blocks[b]? = some e →
    ∃ t, exec (.slotProgramComplete false) s = .next t ∧ t.store.programmer = none ∧
      dieRead t.store.die (slotAddress b n) = some .void ∧
      (∀ a, a ≠ slotAddress b n → dieRead t.store.die a = dieRead s.store.die a) ∧
      t.block b = { e with state := .retired } ∧ t.store.cleanup = s.store.cleanup ++ [{ block := b }] ∧
      t.store.relocation = some { r with target := none, copyPosition := 1, phase := .target } ∧
      t.store.ownQueue = s.store.ownQueue ∧ t.store.mirrorQueue = s.store.mirrorQueue ∧ t = { s with store := t.store }) ∧
  (∀ (s : State) (b : Nat) (rest : List CleanupEntry), s.store.programmer = some (.erase b .cleanup) →
    s.store.cleanup = { block := b } :: rest →
    (∃ t, exec (.blockEraseComplete true) s = .next t ∧ t.store.programmer = none ∧
      (∀ a, a / 1024 = b → dieRead t.store.die a = none) ∧
      (∀ a, a / 1024 ≠ b → dieRead t.store.die a = dieRead s.store.die a) ∧
      t.store.cleanup = { block := b, erased := true } :: rest ∧ t.store.relocation = s.store.relocation ∧
      t.store.blocks = s.store.blocks ∧ t = { s with store := t.store }) ∧
    (∃ t, exec (.blockEraseComplete false) s = .next t ∧ t.store.programmer = none ∧ t.store.cleanup = rest ∧
      (∀ a, a / 1024 ≠ b → dieRead t.store.die a = dieRead s.store.die a) ∧ t.store.blocks = s.store.blocks ∧
      (∀ r, s.store.relocation = some r → t.store.relocation =
        if rest = [] ∧ r.phase = .cleanup then none else some r))) ∧
  (∀ (s : State) (b q : Nat) (c : CleanupEntry) (rest : List CleanupEntry) (pass : Bool),
    s.store.programmer = some (.programRetiredHeader b q) → s.store.cleanup = c :: rest →
    ∃ t, exec (.slotProgramComplete pass) s = .next t ∧ t.store.programmer = none ∧
      dieRead t.store.die (slotAddress b 0) =
        some (if pass then .image (makeSlot .header (headerData 3 q 0)) else .void) ∧
      (∀ a, a ≠ slotAddress b 0 → dieRead t.store.die a = dieRead s.store.die a) ∧
      t.store.cleanup = rest ∧ (∀ r, s.store.relocation = some r → t.store.relocation =
        if rest = [] ∧ r.phase = .cleanup then none else some r) ∧ t = { s with store := t.store })

/-- R127: the die changes only where the die answers an operation, at the end of the start-up scan, and at a power-on reset;
every other command leaves every slot as it was. -/
def Obligations.DieChangesOnlyAtCompletions : Prop :=
  ∀ (c : Instr) (s t : State), exec c s = .next t →
    (∀ straps fire feed clean trip, c ≠ .powerOnReset straps fire feed clean trip) →
    (∀ pass, c ≠ .slotProgramComplete pass ∧ c ≠ .blockEraseComplete pass ∧ c ≠ .slotCopyComplete pass) →
    (∀ erases headers, c ≠ .scanComplete erases headers) → t.store.die = s.store.die

/-- The die's canonical form: every step keeps its addresses strictly rising. -/
def Obligations.DieKeepsItsCanonicalForm : Prop :=
  ∀ s t : State, s.dieWf = true → step s = .next t → t.dieWf = true

/-- R153, R184, R193: the end of the start-up scan. With the store FAILED the station enters FAILED and no configuration
comes into force; with a configuration of this station number it comes into force and the station enters UNTIMED; else the
station enters SETUP. The station number and the clock stay. R79: with the store FAILED and no own record in the store, so
that nothing is handed over, the machine is NORMAL with both counts 0. -/
def Obligations.ScanEndsInFailedSetupOrUntimed : Prop :=
  ∀ (erases headers : List Nat) (s : State), s.ctrl.state = .scan → s.ctrl.inForce = none →
    ∃ t, exec (.scanComplete erases headers) s = .next t ∧ t.ctrl.station = s.ctrl.station ∧ t.clock = s.clock ∧
      t.link = s.link ∧ t.intake = s.intake ∧
      (t.store.failed = true ↔ ((t.store.blocks.drop 1).filter (fun e => e.state != .retired)).length < 8) ∧
      (t.store.failed = true → t.ctrl.state = .failed ∧ t.ctrl.inForce = none) ∧
      (t.store.failed = true → areaRecords .own t = [] →
        t.plant.machine = .normal ∧ t.plant.continuous = 0 ∧ t.plant.yearCount = 0) ∧
      (∀ q m, t.store.failed = false → foundConfig s = some (q, s.ctrl.station, m) →
        t.ctrl.state = .untimed ∧ t.ctrl.inForce = some { image := m, sequence := q } ∧ t.ctrl.edit = m ∧
          t.plant.untimed = some 0) ∧
      (t.store.failed = false → (∀ q m, foundConfig s ≠ some (q, s.ctrl.station, m)) →
        t.ctrl.state = .setup ∧ t.ctrl.inForce = none ∧ t.plant.untimed = some 0)

/-! Readout. -/

/-- R169, R168: a STATUS_REQ is served in every station state with one STATUS_REPLY to its terminal that begins with the
vendor code, the part code, the silicon revision, the station number, the station state and the section; section COUNTS
carries the intake, link, clock, store and plant counts. Nothing but the transmit queue changes. The reply's fields are
formed from the station as it stands (log entries 11, 18 and 19 say what the model chose there). -/
def Obligations.StatusIsServedInEveryState : Prop :=
  ∀ (sender target : Byte) (payload : List Byte) (sec : StatusSection) (s : State),
    s.receives .statusReq sender target payload → statusSection payload = some sec → s.link.queue.length < 8 →
    ∃ t body, exec (.statusReq sender target payload) s = .next t ∧ t = { s with link := t.link } ∧
      t.replies s.frameOver.link .statusReply sender.toNat s.link.deadlineTimer body ∧ body = statusPayload sec s ∧
      body.take 7 = [0x4A, 0x26, 0x30, 0x01, BitVec.ofNat 8 s.ctrl.station, BitVec.ofNat 8 s.ctrl.state.code,
        BitVec.ofNat 8 sec.code] ∧
      (sec = .counts → (body.drop 15).take 28 =
        be 2 s.intake.frameErrors ++ be 2 s.intake.crowdedMinutes ++ be 2 s.intake.overflowMinutes ++
        be 2 s.intake.faultMinutes ++ be 2 s.link.receiveErrors ++ be 2 s.link.transmitErrors ++
        be 2 s.link.resultMisses ++ be 2 s.link.expiredFrames ++ be 2 s.link.addressClashes ++
        be 2 s.clock.disagreements ++ be 2 s.store.ownLosses ++ be 2 s.store.relocations ++
        be 2 s.plant.continuous ++ be 2 s.plant.yearCount)

/-- R170, R171: a WINDOW that passes the six checks is answered DONE and replaces its terminal's window: the request's
fields, a cursor at the window's start, the header pending and no page served; the other terminals' windows stay. -/
def Obligations.WindowIsReplacedWhenDone : Prop :=
  ∀ (sender target : Byte) (payload : List Byte) (f : WindowFields) (s : State),
    s.receives .window sender target payload → s.serving → windowFields payload = some f → windowAnswer f s = .done →
    s.link.queue.length < 8 → s.readout.windows.length = 4 →
    ∃ t w, exec (.window sender target payload) s = .next t ∧ t.readout.window sender.toNat = some w ∧
      w.origin = f.origin ∧ w.kind = f.kind ∧ w.first = f.first ∧ w.last = f.last ∧
      w.firstComponent = f.firstComponent ∧ w.lastComponent = f.lastComponent ∧ w.order = f.order ∧
      w.direction = f.direction ∧ w.headerPending = true ∧ w.pageStart = none ∧
      w.cursor = w.start ∧ w.cursor.id = (if f.direction = .forward then f.first else f.last) ∧
      (f.kind = .interval ∨ f.kind = .day → w.cursor.sub = f.firstComponent) ∧ (f.kind = .notice → w.cursor.sub = 0) ∧
      (f.kind = .year → w.cursor.sub = 1) ∧
      (∀ n, 12 ≤ n → n ≠ sender.toNat → t.readout.window n = s.readout.window n) ∧
      t.answers s.frameOver.link .window sender.toNat .done ∧ t = { s with link := t.link, readout := t.readout }

/-- R173, R174, R176 to R178: the first READ after a WINDOW returns the header page with its flag, the window's fields and
the two counts, and moves no cursor; the next returns the items at the cursor, which it keeps as the page start, and moves
the cursor past them, or to the window's start, WRAPPED; a repeat returns the page from the page start and moves nothing, or
the header, its flag clear, with no page served yet. An INTERVAL or DAY page holds the items of up to six coordinates, each
resolved on its own in 20 bytes; a NOTICE page up to three of the notices from the cursor on; a YEAR page one part. The
reads find the programmer idle and no other read waiting. What counts as absent in the header is the model's reading (log
entry 22), and so are the cursor after a repeat (log entry 20) and the moment at which a NOTICE window wraps (log entry
21). -/
def Obligations.ReadReturnsTheHeaderThenItems : Prop :=
  ∀ (sender target : Byte) (payload : List Byte) (repeated : Bool) (w : Window) (s : State),
    s.receives .read sender target payload → s.serving → readRepeat payload = some repeated →
    s.readout.window sender.toNat = some w → s.store.programmer = none → s.readout.waiting = [] →
    s.link.queue.length < 8 →
    (w.headerPending = true ∨ (repeated = true ∧ w.pageStart = none) → ∃ t, exec (.read sender target payload) s = .next t ∧
      t.readout.window sender.toNat = some { w with headerPending := false } ∧
      t.replies s.frameOver.link .items sender.toNat s.link.deadlineTimer
        ([0, if w.headerPending then 2 else 0, 0] ++ windowBytes w ++ be 4 (itemCount s.frameOver w) ++
          be 4 (absentCount s.frameOver (provisionalView s) w)) ∧
      (w.kind = .interval ∨ w.kind = .day →
        itemCount s.frameOver w = w.idCount * (w.lastComponent + 1 - w.firstComponent)) ∧
      (w.kind = .year → itemCount s.frameOver w = w.idCount * 8) ∧ t = { s with link := t.link, readout := t.readout }) ∧
    (∀ count items c place, w.headerPending = false →
      (repeated = false ∧ place = w.cursor ∨ repeated = true ∧ w.pageStart = some place) →
      pageFrom s.frameOver (provisionalView s) w place = (count, items, c) →
      (∃ t, exec (.read sender target payload) s = .next t ∧
        t.readout.window sender.toNat =
          some (if repeated then w else { w with pageStart := some w.cursor, cursor := c.getD w.start }) ∧
        t.replies s.frameOver.link .items sender.toNat s.link.deadlineTimer
          (be 1 (pageType w.kind) ++ [if c = none then 1 else 0] ++ be 1 count ++ items) ∧
        t = { s with link := t.link, readout := t.readout }) ∧
      (w.kind = .interval ∨ w.kind = .day → count ≤ 6 ∧ items.length = 20 * count ∧
        (w.coordinates 6 place).1.length = count ∧ (w.coordinates 6 place).2 = c ∧
        items = ((w.coordinates 6 place).1.map (resolveItem s.frameOver (provisionalView s) w)).flatten) ∧
      (w.kind = .notice → count ≤ 3 ∧
        items = (((noticesFrom s.frameOver w (w.idCount + 1) 4 place).take 3).map (fun e => noticeItem e.1)).flatten ∧
        (c = none ↔ (noticesFrom s.frameOver w (w.idCount + 1) 4 place).length ≤ 3)) ∧
      (w.kind = .year → count = 4 ∧ items = yearPage s.frameOver w.origin place ∧ c = w.yearSuccessor place))

/-- R130, R168, R171, R174: the first waiting READ is served at the programmer's idle moment from its terminal's window, or
from the one kept for it: it leaves the queue of reads, the page is formed now, the window moves on whether or not the reply
is sent, and its ITEMS reply is due 2 s after the READ was taken; past that it is dropped and counted as expired. The
deadline itself is left out (log entry 44). -/
def Obligations.WaitingReadIsServedFirst : Prop :=
  ∀ (s : State) (r : WaitingRead) (rest : List WaitingRead) (w : Window), s.store.programmer = none →
    s.readout.waiting = r :: rest → readWindow r s = some w → s.link.queue.length < 8 →
    ∃ t page w', exec .storeReadServed s = .next t ∧
      servePage { s with readout := { s.readout with waiting := rest } } r.view r.repeated w = (page, w') ∧
      t.readout = updateWindow r.terminal w' { s.readout with waiting := rest } ∧
      t.readout.waiting.map (fun x => (x.terminal, x.taken)) = rest.map (fun x => (x.terminal, x.taken)) ∧
      (w.headerPending = true → w' = { w with headerPending := false } ∧
        page.take 17 = [0, 2, 0] ++ windowBytes w) ∧
      (w.headerPending = false → r.repeated = false → w'.pageStart = some w.cursor) ∧
      (s.link.deadlineTimer < r.taken + 2000000 → t.replies s.link .items r.terminal r.taken page) ∧
      (r.taken + 2000000 < s.link.deadlineTimer → t.link = { s.link with
        expiredFrames := min (s.link.expiredFrames + 1) 65535 }) ∧
      t = { s with link := t.link, readout := t.readout }

/-! Action requests. -/

/-- R75, R77, R76: a RELEASE in CUTOFF with FIRE, CLEAN and TRIP inactive is answered DONE: the machine is NORMAL, the
continuous count 0, PERMIT as the station state allows, and a RELEASE notice with the count as it stood is offered.
Otherwise it is answered CONDITION and nothing else changes. -/
def Obligations.ReleaseEndsACutoffAtRest : Prop :=
  ∀ (sender target : Byte) (payload : List Byte) (s : State), s.receives .release sender target payload → s.serving →
    s.link.queue.length < 8 →
    (∀ cause, s.plant.machine = .cutoff cause → s.plant.fire = false → s.plant.clean = false → s.plant.trip = false →
      s.ownRoom → ∃ t, exec (.release sender target payload) s = .next t ∧
        t.plant = { s.plant with machine := .normal, continuous := 0,
                                 permit := s.ctrl.state == .untimed || s.ctrl.state == .recording,
                                 faultLine := s.ctrl.state != .recording || s.plant.recordLoss } ∧
        t.store = { s.store with ownQueue := s.store.ownQueue ++ [makeSlot .notice
          (noticeData s.ctrl.station s.clock.time .release (be 1 sender.toNat ++ be 1 cause.toCause.code ++
            be 2 s.plant.continuous ++ be 2 s.plant.yearCount))] } ∧
        t.answers s.frameOver.link .release sender.toNat .done ∧
        t = { s with plant := t.plant, store := t.store, link := t.link }) ∧
    ((s.plant.machine.isCutoff = false ∨ s.plant.fire = true ∨ s.plant.clean = true ∨ s.plant.trip = true) →
      ∃ t, exec (.release sender target payload) s = .next t ∧ t.answers s.frameOver.link .release sender.toNat .condition ∧
        t = { s with link := t.link })

/-- R185: a CONFIGURE in SETUP with no START pending replaces the part of the edit image whole and is answered DONE when
every value lies in its range, and is answered RANGE with the image as it was otherwise. Nothing else changes. -/
def Obligations.ConfigureReplacesAPartOfTheEditImage : Prop :=
  ∀ (sender target : Byte) (payload : List Byte) (part : ConfigurePart) (s : State),
    s.receives .configure sender target payload → s.ctrl.state = .setup → s.ctrl.pendingStart = none →
    configurePart payload = some part → s.link.queue.length < 8 →
    ∃ t, exec (.configure sender target payload) s = .next t ∧ t = { s with link := t.link, ctrl := t.ctrl } ∧
      (partInRange s.ctrl.station part = true →
        t.ctrl = { s.ctrl with edit := applyPart s.ctrl.edit part } ∧
        t.answers s.frameOver.link .configure sender.toNat .done) ∧
      (partInRange s.ctrl.station part = false →
        t.ctrl = s.ctrl ∧ t.answers s.frameOver.link .configure sender.toNat .range)

/-- R187, R188: a START in SETUP that passes the seven checks becomes the pending START with its terminal and time of
taking, a config write of the edit image is asked for, and its answer is deferred: none is offered yet. That the write's
sequence is fixed at this moment is the model's choice (log entry 49). One that fails is answered CONDITION and changes
nothing. -/
def Obligations.StartBecomesPending : Prop :=
  ∀ (sender target : Byte) (payload : List Byte) (s : State), s.receives .start sender target payload →
    s.ctrl.state = .setup → s.ctrl.pendingStart = none → s.readout.deferred.length = 4 →
    (startAllowed s.ctrl.edit = true → ∃ t w, exec (.start sender target payload) s = .next t ∧
      t.ctrl = { s.ctrl with pendingStart := some { terminal := sender.toNat, taken := s.link.deadlineTimer } } ∧
      t.store = { s.store with configWrite := some w } ∧ w.image = s.ctrl.edit ∧ w.failures = 0 ∧
      (s.store.configSequence = none → w.sequence = 1) ∧
      (∀ q, s.store.configSequence = some q → q < 4294967295 → w.sequence = q + 1) ∧
      t.readout.deferred[sender.toNat - 12]? = some (some s.link.deadlineTimer) ∧
      t = { s.frameOver with ctrl := t.ctrl, store := t.store, readout := t.readout }) ∧
    (startAllowed s.ctrl.edit = false → s.link.queue.length < 8 → ∃ t, exec (.start sender target payload) s = .next t ∧
      t.answers s.frameOver.link .start sender.toNat .condition ∧ t = { s with link := t.link })

/-- R189, R190: the config write of the pending START programmed with PASS: the image comes into force with its sequence,
the slot is the current configuration, the station enters RECORDING with the clock timed, where the period unit waits for
the next boundary, and UNTIMED otherwise, and the START is pending no more. With room in the own record queue the START
notice joins it, with the configuration sequence, the terminal, the state entered and the pollutant codes, at station time or
at none. The deferred answer is gone, and the ANSWER DONE with the START's time of taking is offered, due 2 s after it; past
that it is dropped and counted as expired (R94). The deadline itself is left out (log entry 44). That the programmer is idle after the completion
is the model's choice (log entry 39). -/
def Obligations.StartIsCarriedOutAtItsWrite : Prop :=
  ∀ (s : State) (n : Nat) (w : ConfigWrite) (p : PendingStart), s.store.programmer = some (.programConfig n) →
    s.store.configWrite = some w → s.ctrl.pendingStart = some p →
    ∃ t, exec (.slotProgramComplete true) s = .next t ∧
      t.ctrl = { s.ctrl with inForce := some { image := w.image, sequence := w.sequence }, pendingStart := none,
                             state := if s.clock.time.isSome then .recording else .untimed } ∧
      t.period.recording = (if s.clock.time.isSome then .waiting else s.period.recording) ∧
      t.store.configSlot = some n ∧ t.store.configSequence = some w.sequence ∧ t.store.configNext = n + 1 ∧
      t.store.configWrite = none ∧ t.store.programmer = none ∧
      dieRead t.store.die (slotAddress 0 n) =
        some (.image (makeSlot .config (configData w.sequence s.ctrl.station w.image))) ∧
      (∀ a, a ≠ slotAddress 0 n → dieRead t.store.die a = dieRead s.store.die a) ∧
      t.plant.permit = !s.plant.machine.isCutoff ∧ t.plant.machine = s.plant.machine ∧ t.clock = s.clock ∧
      t.intake = s.intake ∧
      (s.ownRoom → t.store.ownQueue = s.store.ownQueue ++ [makeSlot .notice
        (noticeData s.ctrl.station s.clock.time .start (be 4 w.sequence ++ be 1 p.terminal ++
          be 1 (if s.clock.time.isSome then StationState.recording.code else StationState.untimed.code) ++
          (List.range 8).map (fun k => match w.image.components.getD k none with
            | some c => BitVec.ofNat 8 c.pollutant.code
            | none => 0xFF)))]) ∧
      (12 ≤ p.terminal → p.terminal ≤ 15 → s.readout.deferred.length = 4 →
        t.readout.deferred = s.readout.deferred.set (p.terminal - 12) none) ∧
      (s.link.deadlineTimer < p.taken + 2000000 → s.link.queue.length < 8 →
        t.replies s.link .answer p.terminal p.taken
          [BitVec.ofNat 8 FrameKind.start.code, BitVec.ofNat 8 AnswerCode.done.code]) ∧
      (p.taken + 2000000 < s.link.deadlineTimer → t.link = { s.link with
        expiredFrames := min (s.link.expiredFrames + 1) 65535 })

/-- R191, R53, R77: a RESTART in UNTIMED or RECORDING: the station is in SETUP with PERMIT inactive and FAULT active, the
period unit is OFF with the open interval's id the last own interval id, every readout window is absent, and the edit image
is a copy of the configuration in force, which stays; it is answered DONE. R53, R191: in OPEN the open interval's record, with
fate INTERRUPTED, joins the own record queue, and is counted as interrupted in the year summary; the last record that joins is
the RESTART notice with the terminal, the state left, and the id of the interval closed. Out of OPEN the notice alone joins,
with no id. With no room the records are refused (R132), which is not stated here. -/
def Obligations.RestartReturnsToSetup : Prop :=
  ∀ (sender target : Byte) (payload : List Byte) (cfg : ConfigImage) (s : State),
    s.receives .restart sender target payload → (s.ctrl.state = .untimed ∨ s.ctrl.state = .recording) →
    s.config? = some cfg → s.link.queue.length < 8 →
    ∃ t, exec (.restart sender target payload) s = .next t ∧
      t.ctrl = { s.ctrl with state := .setup, edit := cfg } ∧ t.plant.permit = false ∧ t.plant.faultLine = true ∧
      t.plant.machine = s.plant.machine ∧ t.plant.continuous = s.plant.continuous ∧
      t.plant.yearCount = s.plant.yearCount ∧
      t.period.recording = .off ∧ t.period.openInterval = none ∧
      (∀ o, s.period.recording = .opened → s.period.openInterval = some o → t.period.lastOwn = some o.id) ∧
      (∀ n, 12 ≤ n → n ≤ 15 → t.readout.window n = none) ∧ t.answers s.frameOver.link .restart sender.toNat .done ∧
      (∀ o, s.period.recording = .opened → s.period.openInterval = some o → s.store.failed = false →
        s.store.ownQueue.length ≤ 3 →
        ∃ r, t.store.ownQueue[s.store.ownQueue.length]? = some (makeSlot .interval (intervalData r)) ∧
          r.id = o.id ∧ r.origin = s.ctrl.station ∧ r.fate = .interrupted ∧ r.operating = o.operating ∧
          r.abnormal = o.abnormal ∧ r.flags.isPartial = o.flags.isPartial ∧
          t.store.ownQueue.getLast? = some (makeSlot .notice (noticeData s.ctrl.station s.clock.time .restart
            (be 1 sender.toNat ++ be 1 s.ctrl.state.code ++ idBytes o.id))) ∧
          (o.id.index ≠ 47 → t.store.ownQueue.length = s.store.ownQueue.length + 2 ∧
            t.period.summary.interrupted = s.period.summary.interrupted + 1 ∧
            t.period.summary.operating = s.period.summary.operating + o.operating ∧
            t.period.summary.abnormal = s.period.summary.abnormal + o.abnormal)) ∧
      (s.period.recording ≠ .opened → s.ownRoom → t.store = { s.store with ownQueue := s.store.ownQueue ++
        [makeSlot .notice (noticeData s.ctrl.station s.clock.time .restart
          (be 1 sender.toNat ++ be 1 s.ctrl.state.code ++ [0xFF, 0xFF, 0xFF, 0xFF]))] }) ∧
      t = { s with ctrl := t.ctrl, plant := t.plant, period := t.period, store := t.store, readout := t.readout,
                   link := t.link } ∧
      t.store.die = s.store.die

/-! What holds of every command. -/

/-- R183, R188, R190: the station number is fixed until the next power-on reset, and the configuration in force changes only
at the completion of a slot program, at the end of the scan and at a power-on reset. -/
def Obligations.StationAndConfigurationAreFixed : Prop :=
  ∀ (c : Instr) (s t : State), exec c s = .next t →
    (∀ straps fire feed clean trip, c ≠ .powerOnReset straps fire feed clean trip) →
    t.ctrl.station = s.ctrl.station ∧
      ((∀ pass, c ≠ .slotProgramComplete pass) → (∀ erases headers, c ≠ .scanComplete erases headers) →
        t.ctrl.inForce = s.ctrl.inForce)

/-- The fixed tables of the station keep their sizes at every step. -/
def Obligations.TablesKeepTheirSizes : Prop :=
  ∀ s t : State, s.tablesSized → step s = .next t → t.tablesSized

/-- The state right after reset has every property that the invariants above keep. -/
def Obligations.ResetHasEveryInvariant : Prop :=
  State.reset.accumulatorsBounded ∧ State.reset.intervalsAdvance ∧ State.reset.linesAgree ∧ State.reset.oneSending ∧
    State.reset.oneWaiting ∧ State.reset.offeringOrder ∧ State.reset.queuesBounded ∧ State.reset.dieWf = true ∧
    State.reset.tablesSized ∧ State.reset.repliesAddressed ∧ State.reset.noneOverdue
end

