-- ==== Sys2Proof/Laws/State.lean ====
section
/-! SUPPORT. One lemma per field per update of the state, each true by `rfl`, so that no proof unfolds a record update. -/

namespace Sys2Proof.Laws

open Sys2Proof.Machine

variable (s : State)

@[simp] theorem setIntake_intake (x : Intake) : (s.setIntake x).intake = x := rfl
@[simp] theorem setIntake_norm (x : Intake) : (s.setIntake x).norm = s.norm := rfl
@[simp] theorem setIntake_period (x : Intake) : (s.setIntake x).period = s.period := rfl
@[simp] theorem setIntake_plant (x : Intake) : (s.setIntake x).plant = s.plant := rfl
@[simp] theorem setIntake_clock (x : Intake) : (s.setIntake x).clock = s.clock := rfl
@[simp] theorem setIntake_share (x : Intake) : (s.setIntake x).share = s.share := rfl
@[simp] theorem setIntake_link (x : Intake) : (s.setIntake x).link = s.link := rfl
@[simp] theorem setIntake_store (x : Intake) : (s.setIntake x).store = s.store := rfl
@[simp] theorem setIntake_mirror (x : Intake) : (s.setIntake x).mirror = s.mirror := rfl
@[simp] theorem setIntake_readout (x : Intake) : (s.setIntake x).readout = s.readout := rfl
@[simp] theorem setIntake_ctrl (x : Intake) : (s.setIntake x).ctrl = s.ctrl := rfl
@[simp] theorem setIntake_freeCount (x : Intake) : (s.setIntake x).freeCount = s.freeCount := rfl
@[simp] theorem setIntake_pending (x : Intake) : (s.setIntake x).pending = s.pending := rfl

@[simp] theorem setNorm_intake (x : Norm) : (s.setNorm x).intake = s.intake := rfl
@[simp] theorem setNorm_norm (x : Norm) : (s.setNorm x).norm = x := rfl
@[simp] theorem setNorm_period (x : Norm) : (s.setNorm x).period = s.period := rfl
@[simp] theorem setNorm_plant (x : Norm) : (s.setNorm x).plant = s.plant := rfl
@[simp] theorem setNorm_clock (x : Norm) : (s.setNorm x).clock = s.clock := rfl
@[simp] theorem setNorm_share (x : Norm) : (s.setNorm x).share = s.share := rfl
@[simp] theorem setNorm_link (x : Norm) : (s.setNorm x).link = s.link := rfl
@[simp] theorem setNorm_store (x : Norm) : (s.setNorm x).store = s.store := rfl
@[simp] theorem setNorm_mirror (x : Norm) : (s.setNorm x).mirror = s.mirror := rfl
@[simp] theorem setNorm_readout (x : Norm) : (s.setNorm x).readout = s.readout := rfl
@[simp] theorem setNorm_ctrl (x : Norm) : (s.setNorm x).ctrl = s.ctrl := rfl
@[simp] theorem setNorm_freeCount (x : Norm) : (s.setNorm x).freeCount = s.freeCount := rfl
@[simp] theorem setNorm_pending (x : Norm) : (s.setNorm x).pending = s.pending := rfl

@[simp] theorem setPeriod_intake (x : Period) : (s.setPeriod x).intake = s.intake := rfl
@[simp] theorem setPeriod_norm (x : Period) : (s.setPeriod x).norm = s.norm := rfl
@[simp] theorem setPeriod_period (x : Period) : (s.setPeriod x).period = x := rfl
@[simp] theorem setPeriod_plant (x : Period) : (s.setPeriod x).plant = s.plant := rfl
@[simp] theorem setPeriod_clock (x : Period) : (s.setPeriod x).clock = s.clock := rfl
@[simp] theorem setPeriod_share (x : Period) : (s.setPeriod x).share = s.share := rfl
@[simp] theorem setPeriod_link (x : Period) : (s.setPeriod x).link = s.link := rfl
@[simp] theorem setPeriod_store (x : Period) : (s.setPeriod x).store = s.store := rfl
@[simp] theorem setPeriod_mirror (x : Period) : (s.setPeriod x).mirror = s.mirror := rfl
@[simp] theorem setPeriod_readout (x : Period) : (s.setPeriod x).readout = s.readout := rfl
@[simp] theorem setPeriod_ctrl (x : Period) : (s.setPeriod x).ctrl = s.ctrl := rfl
@[simp] theorem setPeriod_freeCount (x : Period) : (s.setPeriod x).freeCount = s.freeCount := rfl
@[simp] theorem setPeriod_pending (x : Period) : (s.setPeriod x).pending = s.pending := rfl

@[simp] theorem setPlant_intake (x : Plant) : (s.setPlant x).intake = s.intake := rfl
@[simp] theorem setPlant_norm (x : Plant) : (s.setPlant x).norm = s.norm := rfl
@[simp] theorem setPlant_period (x : Plant) : (s.setPlant x).period = s.period := rfl
@[simp] theorem setPlant_plant (x : Plant) : (s.setPlant x).plant = x := rfl
@[simp] theorem setPlant_clock (x : Plant) : (s.setPlant x).clock = s.clock := rfl
@[simp] theorem setPlant_share (x : Plant) : (s.setPlant x).share = s.share := rfl
@[simp] theorem setPlant_link (x : Plant) : (s.setPlant x).link = s.link := rfl
@[simp] theorem setPlant_store (x : Plant) : (s.setPlant x).store = s.store := rfl
@[simp] theorem setPlant_mirror (x : Plant) : (s.setPlant x).mirror = s.mirror := rfl
@[simp] theorem setPlant_readout (x : Plant) : (s.setPlant x).readout = s.readout := rfl
@[simp] theorem setPlant_ctrl (x : Plant) : (s.setPlant x).ctrl = s.ctrl := rfl
@[simp] theorem setPlant_freeCount (x : Plant) : (s.setPlant x).freeCount = s.freeCount := rfl
@[simp] theorem setPlant_pending (x : Plant) : (s.setPlant x).pending = s.pending := rfl

@[simp] theorem setClock_intake (x : Clock) : (s.setClock x).intake = s.intake := rfl
@[simp] theorem setClock_norm (x : Clock) : (s.setClock x).norm = s.norm := rfl
@[simp] theorem setClock_period (x : Clock) : (s.setClock x).period = s.period := rfl
@[simp] theorem setClock_plant (x : Clock) : (s.setClock x).plant = s.plant := rfl
@[simp] theorem setClock_clock (x : Clock) : (s.setClock x).clock = x := rfl
@[simp] theorem setClock_share (x : Clock) : (s.setClock x).share = s.share := rfl
@[simp] theorem setClock_link (x : Clock) : (s.setClock x).link = s.link := rfl
@[simp] theorem setClock_store (x : Clock) : (s.setClock x).store = s.store := rfl
@[simp] theorem setClock_mirror (x : Clock) : (s.setClock x).mirror = s.mirror := rfl
@[simp] theorem setClock_readout (x : Clock) : (s.setClock x).readout = s.readout := rfl
@[simp] theorem setClock_ctrl (x : Clock) : (s.setClock x).ctrl = s.ctrl := rfl
@[simp] theorem setClock_freeCount (x : Clock) : (s.setClock x).freeCount = s.freeCount := rfl
@[simp] theorem setClock_pending (x : Clock) : (s.setClock x).pending = s.pending := rfl

@[simp] theorem setShare_intake (x : ShareUnit) : (s.setShare x).intake = s.intake := rfl
@[simp] theorem setShare_norm (x : ShareUnit) : (s.setShare x).norm = s.norm := rfl
@[simp] theorem setShare_period (x : ShareUnit) : (s.setShare x).period = s.period := rfl
@[simp] theorem setShare_plant (x : ShareUnit) : (s.setShare x).plant = s.plant := rfl
@[simp] theorem setShare_clock (x : ShareUnit) : (s.setShare x).clock = s.clock := rfl
@[simp] theorem setShare_share (x : ShareUnit) : (s.setShare x).share = x := rfl
@[simp] theorem setShare_link (x : ShareUnit) : (s.setShare x).link = s.link := rfl
@[simp] theorem setShare_store (x : ShareUnit) : (s.setShare x).store = s.store := rfl
@[simp] theorem setShare_mirror (x : ShareUnit) : (s.setShare x).mirror = s.mirror := rfl
@[simp] theorem setShare_readout (x : ShareUnit) : (s.setShare x).readout = s.readout := rfl
@[simp] theorem setShare_ctrl (x : ShareUnit) : (s.setShare x).ctrl = s.ctrl := rfl
@[simp] theorem setShare_freeCount (x : ShareUnit) : (s.setShare x).freeCount = s.freeCount := rfl
@[simp] theorem setShare_pending (x : ShareUnit) : (s.setShare x).pending = s.pending := rfl

@[simp] theorem setLink_intake (x : Link) : (s.setLink x).intake = s.intake := rfl
@[simp] theorem setLink_norm (x : Link) : (s.setLink x).norm = s.norm := rfl
@[simp] theorem setLink_period (x : Link) : (s.setLink x).period = s.period := rfl
@[simp] theorem setLink_plant (x : Link) : (s.setLink x).plant = s.plant := rfl
@[simp] theorem setLink_clock (x : Link) : (s.setLink x).clock = s.clock := rfl
@[simp] theorem setLink_share (x : Link) : (s.setLink x).share = s.share := rfl
@[simp] theorem setLink_link (x : Link) : (s.setLink x).link = x := rfl
@[simp] theorem setLink_store (x : Link) : (s.setLink x).store = s.store := rfl
@[simp] theorem setLink_mirror (x : Link) : (s.setLink x).mirror = s.mirror := rfl
@[simp] theorem setLink_readout (x : Link) : (s.setLink x).readout = s.readout := rfl
@[simp] theorem setLink_ctrl (x : Link) : (s.setLink x).ctrl = s.ctrl := rfl
@[simp] theorem setLink_freeCount (x : Link) : (s.setLink x).freeCount = s.freeCount := rfl
@[simp] theorem setLink_pending (x : Link) : (s.setLink x).pending = s.pending := rfl

@[simp] theorem setStore_intake (x : Store) : (s.setStore x).intake = s.intake := rfl
@[simp] theorem setStore_norm (x : Store) : (s.setStore x).norm = s.norm := rfl
@[simp] theorem setStore_period (x : Store) : (s.setStore x).period = s.period := rfl
@[simp] theorem setStore_plant (x : Store) : (s.setStore x).plant = s.plant := rfl
@[simp] theorem setStore_clock (x : Store) : (s.setStore x).clock = s.clock := rfl
@[simp] theorem setStore_share (x : Store) : (s.setStore x).share = s.share := rfl
@[simp] theorem setStore_link (x : Store) : (s.setStore x).link = s.link := rfl
@[simp] theorem setStore_store (x : Store) : (s.setStore x).store = x := rfl
@[simp] theorem setStore_mirror (x : Store) : (s.setStore x).mirror = s.mirror := rfl
@[simp] theorem setStore_readout (x : Store) : (s.setStore x).readout = s.readout := rfl
@[simp] theorem setStore_ctrl (x : Store) : (s.setStore x).ctrl = s.ctrl := rfl
@[simp] theorem setStore_freeCount (x : Store) : (s.setStore x).freeCount = s.freeCount := rfl
@[simp] theorem setStore_pending (x : Store) : (s.setStore x).pending = s.pending := rfl

@[simp] theorem setMirror_intake (x : Mirror) : (s.setMirror x).intake = s.intake := rfl
@[simp] theorem setMirror_norm (x : Mirror) : (s.setMirror x).norm = s.norm := rfl
@[simp] theorem setMirror_period (x : Mirror) : (s.setMirror x).period = s.period := rfl
@[simp] theorem setMirror_plant (x : Mirror) : (s.setMirror x).plant = s.plant := rfl
@[simp] theorem setMirror_clock (x : Mirror) : (s.setMirror x).clock = s.clock := rfl
@[simp] theorem setMirror_share (x : Mirror) : (s.setMirror x).share = s.share := rfl
@[simp] theorem setMirror_link (x : Mirror) : (s.setMirror x).link = s.link := rfl
@[simp] theorem setMirror_store (x : Mirror) : (s.setMirror x).store = s.store := rfl
@[simp] theorem setMirror_mirror (x : Mirror) : (s.setMirror x).mirror = x := rfl
@[simp] theorem setMirror_readout (x : Mirror) : (s.setMirror x).readout = s.readout := rfl
@[simp] theorem setMirror_ctrl (x : Mirror) : (s.setMirror x).ctrl = s.ctrl := rfl
@[simp] theorem setMirror_freeCount (x : Mirror) : (s.setMirror x).freeCount = s.freeCount := rfl
@[simp] theorem setMirror_pending (x : Mirror) : (s.setMirror x).pending = s.pending := rfl

@[simp] theorem setReadout_intake (x : Readout) : (s.setReadout x).intake = s.intake := rfl
@[simp] theorem setReadout_norm (x : Readout) : (s.setReadout x).norm = s.norm := rfl
@[simp] theorem setReadout_period (x : Readout) : (s.setReadout x).period = s.period := rfl
@[simp] theorem setReadout_plant (x : Readout) : (s.setReadout x).plant = s.plant := rfl
@[simp] theorem setReadout_clock (x : Readout) : (s.setReadout x).clock = s.clock := rfl
@[simp] theorem setReadout_share (x : Readout) : (s.setReadout x).share = s.share := rfl
@[simp] theorem setReadout_link (x : Readout) : (s.setReadout x).link = s.link := rfl
@[simp] theorem setReadout_store (x : Readout) : (s.setReadout x).store = s.store := rfl
@[simp] theorem setReadout_mirror (x : Readout) : (s.setReadout x).mirror = s.mirror := rfl
@[simp] theorem setReadout_readout (x : Readout) : (s.setReadout x).readout = x := rfl
@[simp] theorem setReadout_ctrl (x : Readout) : (s.setReadout x).ctrl = s.ctrl := rfl
@[simp] theorem setReadout_freeCount (x : Readout) : (s.setReadout x).freeCount = s.freeCount := rfl
@[simp] theorem setReadout_pending (x : Readout) : (s.setReadout x).pending = s.pending := rfl

@[simp] theorem setCtrl_intake (x : Controller) : (s.setCtrl x).intake = s.intake := rfl
@[simp] theorem setCtrl_norm (x : Controller) : (s.setCtrl x).norm = s.norm := rfl
@[simp] theorem setCtrl_period (x : Controller) : (s.setCtrl x).period = s.period := rfl
@[simp] theorem setCtrl_plant (x : Controller) : (s.setCtrl x).plant = s.plant := rfl
@[simp] theorem setCtrl_clock (x : Controller) : (s.setCtrl x).clock = s.clock := rfl
@[simp] theorem setCtrl_share (x : Controller) : (s.setCtrl x).share = s.share := rfl
@[simp] theorem setCtrl_link (x : Controller) : (s.setCtrl x).link = s.link := rfl
@[simp] theorem setCtrl_store (x : Controller) : (s.setCtrl x).store = s.store := rfl
@[simp] theorem setCtrl_mirror (x : Controller) : (s.setCtrl x).mirror = s.mirror := rfl
@[simp] theorem setCtrl_readout (x : Controller) : (s.setCtrl x).readout = s.readout := rfl
@[simp] theorem setCtrl_ctrl (x : Controller) : (s.setCtrl x).ctrl = x := rfl
@[simp] theorem setCtrl_freeCount (x : Controller) : (s.setCtrl x).freeCount = s.freeCount := rfl
@[simp] theorem setCtrl_pending (x : Controller) : (s.setCtrl x).pending = s.pending := rfl

@[simp] theorem setFreeCount_intake (x : Nat) : (s.setFreeCount x).intake = s.intake := rfl
@[simp] theorem setFreeCount_norm (x : Nat) : (s.setFreeCount x).norm = s.norm := rfl
@[simp] theorem setFreeCount_period (x : Nat) : (s.setFreeCount x).period = s.period := rfl
@[simp] theorem setFreeCount_plant (x : Nat) : (s.setFreeCount x).plant = s.plant := rfl
@[simp] theorem setFreeCount_clock (x : Nat) : (s.setFreeCount x).clock = s.clock := rfl
@[simp] theorem setFreeCount_share (x : Nat) : (s.setFreeCount x).share = s.share := rfl
@[simp] theorem setFreeCount_link (x : Nat) : (s.setFreeCount x).link = s.link := rfl
@[simp] theorem setFreeCount_store (x : Nat) : (s.setFreeCount x).store = s.store := rfl
@[simp] theorem setFreeCount_mirror (x : Nat) : (s.setFreeCount x).mirror = s.mirror := rfl
@[simp] theorem setFreeCount_readout (x : Nat) : (s.setFreeCount x).readout = s.readout := rfl
@[simp] theorem setFreeCount_ctrl (x : Nat) : (s.setFreeCount x).ctrl = s.ctrl := rfl
@[simp] theorem setFreeCount_freeCount (x : Nat) : (s.setFreeCount x).freeCount = x := rfl
@[simp] theorem setFreeCount_pending (x : Nat) : (s.setFreeCount x).pending = s.pending := rfl

@[simp] theorem setPending_intake (x : List Instr) : (s.setPending x).intake = s.intake := rfl
@[simp] theorem setPending_norm (x : List Instr) : (s.setPending x).norm = s.norm := rfl
@[simp] theorem setPending_period (x : List Instr) : (s.setPending x).period = s.period := rfl
@[simp] theorem setPending_plant (x : List Instr) : (s.setPending x).plant = s.plant := rfl
@[simp] theorem setPending_clock (x : List Instr) : (s.setPending x).clock = s.clock := rfl
@[simp] theorem setPending_share (x : List Instr) : (s.setPending x).share = s.share := rfl
@[simp] theorem setPending_link (x : List Instr) : (s.setPending x).link = s.link := rfl
@[simp] theorem setPending_store (x : List Instr) : (s.setPending x).store = s.store := rfl
@[simp] theorem setPending_mirror (x : List Instr) : (s.setPending x).mirror = s.mirror := rfl
@[simp] theorem setPending_readout (x : List Instr) : (s.setPending x).readout = s.readout := rfl
@[simp] theorem setPending_ctrl (x : List Instr) : (s.setPending x).ctrl = s.ctrl := rfl
@[simp] theorem setPending_freeCount (x : List Instr) : (s.setPending x).freeCount = s.freeCount := rfl
@[simp] theorem setPending_pending (x : List Instr) : (s.setPending x).pending = x := rfl

/-! What is read off the state and an update leaves alone. -/

@[simp] theorem setIntake_views (x : Intake) : (s.setIntake x).station = s.station ∧
    (s.setIntake x).config? = s.config? ∧
    (s.setIntake x).config = s.config ∧
    (s.setIntake x).stackGroup = s.stackGroup ∧
    (s.setIntake x).timed = s.timed ∧
    (s.setIntake x).now = s.now :=
  ⟨rfl, rfl, rfl, rfl, rfl, rfl⟩

@[simp] theorem setNorm_views (x : Norm) : (s.setNorm x).station = s.station ∧
    (s.setNorm x).config? = s.config? ∧
    (s.setNorm x).config = s.config ∧
    (s.setNorm x).stackGroup = s.stackGroup ∧
    (s.setNorm x).timed = s.timed ∧
    (s.setNorm x).now = s.now :=
  ⟨rfl, rfl, rfl, rfl, rfl, rfl⟩

@[simp] theorem setPeriod_views (x : Period) : (s.setPeriod x).station = s.station ∧
    (s.setPeriod x).config? = s.config? ∧
    (s.setPeriod x).config = s.config ∧
    (s.setPeriod x).stackGroup = s.stackGroup ∧
    (s.setPeriod x).timed = s.timed ∧
    (s.setPeriod x).now = s.now :=
  ⟨rfl, rfl, rfl, rfl, rfl, rfl⟩

@[simp] theorem setPlant_views (x : Plant) : (s.setPlant x).station = s.station ∧
    (s.setPlant x).config? = s.config? ∧
    (s.setPlant x).config = s.config ∧
    (s.setPlant x).stackGroup = s.stackGroup ∧
    (s.setPlant x).timed = s.timed ∧
    (s.setPlant x).now = s.now :=
  ⟨rfl, rfl, rfl, rfl, rfl, rfl⟩

@[simp] theorem setClock_views (x : Clock) : (s.setClock x).station = s.station ∧
    (s.setClock x).config? = s.config? ∧
    (s.setClock x).config = s.config ∧
    (s.setClock x).stackGroup = s.stackGroup ∧
    (s.setClock x).now = s.now :=
  ⟨rfl, rfl, rfl, rfl, rfl⟩

@[simp] theorem setShare_views (x : ShareUnit) : (s.setShare x).station = s.station ∧
    (s.setShare x).config? = s.config? ∧
    (s.setShare x).config = s.config ∧
    (s.setShare x).stackGroup = s.stackGroup ∧
    (s.setShare x).timed = s.timed ∧
    (s.setShare x).now = s.now :=
  ⟨rfl, rfl, rfl, rfl, rfl, rfl⟩

@[simp] theorem setLink_views (x : Link) : (s.setLink x).station = s.station ∧
    (s.setLink x).config? = s.config? ∧
    (s.setLink x).config = s.config ∧
    (s.setLink x).stackGroup = s.stackGroup ∧
    (s.setLink x).timed = s.timed :=
  ⟨rfl, rfl, rfl, rfl, rfl⟩

@[simp] theorem setStore_views (x : Store) : (s.setStore x).station = s.station ∧
    (s.setStore x).config? = s.config? ∧
    (s.setStore x).config = s.config ∧
    (s.setStore x).stackGroup = s.stackGroup ∧
    (s.setStore x).timed = s.timed ∧
    (s.setStore x).now = s.now :=
  ⟨rfl, rfl, rfl, rfl, rfl, rfl⟩

@[simp] theorem setMirror_views (x : Mirror) : (s.setMirror x).station = s.station ∧
    (s.setMirror x).config? = s.config? ∧
    (s.setMirror x).config = s.config ∧
    (s.setMirror x).stackGroup = s.stackGroup ∧
    (s.setMirror x).timed = s.timed ∧
    (s.setMirror x).now = s.now :=
  ⟨rfl, rfl, rfl, rfl, rfl, rfl⟩

@[simp] theorem setReadout_views (x : Readout) : (s.setReadout x).station = s.station ∧
    (s.setReadout x).config? = s.config? ∧
    (s.setReadout x).config = s.config ∧
    (s.setReadout x).stackGroup = s.stackGroup ∧
    (s.setReadout x).timed = s.timed ∧
    (s.setReadout x).now = s.now :=
  ⟨rfl, rfl, rfl, rfl, rfl, rfl⟩

@[simp] theorem setCtrl_views (x : Controller) : (s.setCtrl x).timed = s.timed ∧
    (s.setCtrl x).now = s.now :=
  ⟨rfl, rfl⟩

@[simp] theorem setFreeCount_views (x : Nat) : (s.setFreeCount x).station = s.station ∧
    (s.setFreeCount x).config? = s.config? ∧
    (s.setFreeCount x).config = s.config ∧
    (s.setFreeCount x).stackGroup = s.stackGroup ∧
    (s.setFreeCount x).timed = s.timed ∧
    (s.setFreeCount x).now = s.now :=
  ⟨rfl, rfl, rfl, rfl, rfl, rfl⟩

@[simp] theorem setPending_views (x : List Instr) : (s.setPending x).station = s.station ∧
    (s.setPending x).config? = s.config? ∧
    (s.setPending x).config = s.config ∧
    (s.setPending x).stackGroup = s.stackGroup ∧
    (s.setPending x).timed = s.timed ∧
    (s.setPending x).now = s.now :=
  ⟨rfl, rfl, rfl, rfl, rfl, rfl⟩

end Sys2Proof.Laws
end

