-- ==== Sys2Proof/Laws/FramesPlant.lean ====
section
/-! SUPPORT. What the shared operations leave alone: of Ops, the intake unit, the plant signal unit, the load share unit and
the period unit. One lemma an operation names every block of the state it does not change. -/

namespace Sys2Proof.Laws

open Sys2Proof.Machine

@[simp] theorem driveOutputs_frame (s : State) :
    (driveOutputs s).intake = s.intake ∧ (driveOutputs s).norm = s.norm ∧ (driveOutputs s).period = s.period ∧
    (driveOutputs s).clock = s.clock ∧ (driveOutputs s).share = s.share ∧ (driveOutputs s).link = s.link ∧
    (driveOutputs s).store = s.store ∧ (driveOutputs s).mirror = s.mirror ∧ (driveOutputs s).readout = s.readout ∧
    (driveOutputs s).ctrl = s.ctrl ∧ (driveOutputs s).freeCount = s.freeCount ∧
    (driveOutputs s).pending = s.pending := by
  unfold driveOutputs
  simp

@[simp] theorem setMachine_frame (m : AbnormalMachine) (s : State) :
    (setMachine m s).intake = s.intake ∧ (setMachine m s).norm = s.norm ∧ (setMachine m s).period = s.period ∧
    (setMachine m s).clock = s.clock ∧ (setMachine m s).share = s.share ∧ (setMachine m s).link = s.link ∧
    (setMachine m s).store = s.store ∧ (setMachine m s).mirror = s.mirror ∧ (setMachine m s).readout = s.readout ∧
    (setMachine m s).ctrl = s.ctrl ∧ (setMachine m s).freeCount = s.freeCount ∧
    (setMachine m s).pending = s.pending := by
  unfold setMachine
  simp

@[simp] theorem enterState_frame (st : StationState) (s : State) :
    (enterState st s).intake = s.intake ∧ (enterState st s).norm = s.norm ∧ (enterState st s).period = s.period ∧
    (enterState st s).clock = s.clock ∧ (enterState st s).share = s.share ∧ (enterState st s).link = s.link ∧
    (enterState st s).store = s.store ∧ (enterState st s).mirror = s.mirror ∧ (enterState st s).readout = s.readout ∧
    (enterState st s).freeCount = s.freeCount ∧ (enterState st s).pending = s.pending := by
  unfold enterState
  simp

@[simp] theorem setRecordLoss_frame (b : Bool) (s : State) :
    (setRecordLoss b s).intake = s.intake ∧ (setRecordLoss b s).norm = s.norm ∧
    (setRecordLoss b s).period = s.period ∧ (setRecordLoss b s).clock = s.clock ∧
    (setRecordLoss b s).share = s.share ∧ (setRecordLoss b s).link = s.link ∧ (setRecordLoss b s).store = s.store ∧
    (setRecordLoss b s).mirror = s.mirror ∧ (setRecordLoss b s).readout = s.readout ∧
    (setRecordLoss b s).ctrl = s.ctrl ∧ (setRecordLoss b s).freeCount = s.freeCount ∧
    (setRecordLoss b s).pending = s.pending := by
  unfold setRecordLoss
  simp

@[simp] theorem writeSlot_frame (block slot : Nat) (c : SlotContent) (s : State) :
    (writeSlot block slot c s).intake = s.intake ∧ (writeSlot block slot c s).norm = s.norm ∧
    (writeSlot block slot c s).period = s.period ∧ (writeSlot block slot c s).plant = s.plant ∧
    (writeSlot block slot c s).clock = s.clock ∧ (writeSlot block slot c s).share = s.share ∧
    (writeSlot block slot c s).link = s.link ∧ (writeSlot block slot c s).mirror = s.mirror ∧
    (writeSlot block slot c s).readout = s.readout ∧ (writeSlot block slot c s).ctrl = s.ctrl ∧
    (writeSlot block slot c s).freeCount = s.freeCount ∧ (writeSlot block slot c s).pending = s.pending := by
  unfold writeSlot
  simp

@[simp] theorem eraseSlots_frame (block : Nat) (s : State) :
    (eraseSlots block s).intake = s.intake ∧ (eraseSlots block s).norm = s.norm ∧
    (eraseSlots block s).period = s.period ∧ (eraseSlots block s).plant = s.plant ∧
    (eraseSlots block s).clock = s.clock ∧ (eraseSlots block s).share = s.share ∧
    (eraseSlots block s).link = s.link ∧ (eraseSlots block s).mirror = s.mirror ∧
    (eraseSlots block s).readout = s.readout ∧ (eraseSlots block s).ctrl = s.ctrl ∧
    (eraseSlots block s).freeCount = s.freeCount ∧ (eraseSlots block s).pending = s.pending := by
  unfold eraseSlots
  simp

@[simp] theorem scrambleSlots_frame (block : Nat) (s : State) :
    (scrambleSlots block s).intake = s.intake ∧ (scrambleSlots block s).norm = s.norm ∧
    (scrambleSlots block s).period = s.period ∧ (scrambleSlots block s).plant = s.plant ∧
    (scrambleSlots block s).clock = s.clock ∧ (scrambleSlots block s).share = s.share ∧
    (scrambleSlots block s).link = s.link ∧ (scrambleSlots block s).mirror = s.mirror ∧
    (scrambleSlots block s).readout = s.readout ∧ (scrambleSlots block s).ctrl = s.ctrl ∧
    (scrambleSlots block s).pending = s.pending := by
  unfold scrambleSlots
  simp

@[simp] theorem setBlock_frame (b : Nat) (f : BlockEntry → BlockEntry) (s : State) :
    (setBlock b f s).intake = s.intake ∧ (setBlock b f s).norm = s.norm ∧ (setBlock b f s).period = s.period ∧
    (setBlock b f s).plant = s.plant ∧ (setBlock b f s).clock = s.clock ∧ (setBlock b f s).share = s.share ∧
    (setBlock b f s).link = s.link ∧ (setBlock b f s).mirror = s.mirror ∧ (setBlock b f s).readout = s.readout ∧
    (setBlock b f s).ctrl = s.ctrl ∧ (setBlock b f s).freeCount = s.freeCount ∧
    (setBlock b f s).pending = s.pending := by
  unfold setBlock
  simp

@[simp] theorem setProgrammer_frame (op : Option ProgOp) (s : State) :
    (setProgrammer op s).intake = s.intake ∧ (setProgrammer op s).norm = s.norm ∧
    (setProgrammer op s).period = s.period ∧ (setProgrammer op s).plant = s.plant ∧
    (setProgrammer op s).clock = s.clock ∧ (setProgrammer op s).share = s.share ∧
    (setProgrammer op s).link = s.link ∧ (setProgrammer op s).mirror = s.mirror ∧
    (setProgrammer op s).readout = s.readout ∧ (setProgrammer op s).ctrl = s.ctrl ∧
    (setProgrammer op s).freeCount = s.freeCount ∧ (setProgrammer op s).pending = s.pending := by
  unfold setProgrammer
  simp

@[simp] theorem offerOwn_frame (r : SlotImage) (s : State) :
    (offerOwn r s).intake = s.intake ∧ (offerOwn r s).norm = s.norm ∧ (offerOwn r s).period = s.period ∧
    (offerOwn r s).clock = s.clock ∧ (offerOwn r s).share = s.share ∧ (offerOwn r s).link = s.link ∧
    (offerOwn r s).mirror = s.mirror ∧ (offerOwn r s).readout = s.readout ∧ (offerOwn r s).ctrl = s.ctrl ∧
    (offerOwn r s).freeCount = s.freeCount ∧ (offerOwn r s).pending = s.pending := by
  unfold offerOwn
  (repeat' split) <;> simp

@[simp] theorem offerNotice_frame (code : NoticeCode) (params : List Byte) (s : State) :
    (offerNotice code params s).intake = s.intake ∧ (offerNotice code params s).norm = s.norm ∧
    (offerNotice code params s).period = s.period ∧ (offerNotice code params s).clock = s.clock ∧
    (offerNotice code params s).share = s.share ∧ (offerNotice code params s).link = s.link ∧
    (offerNotice code params s).mirror = s.mirror ∧ (offerNotice code params s).readout = s.readout ∧
    (offerNotice code params s).ctrl = s.ctrl ∧ (offerNotice code params s).freeCount = s.freeCount ∧
    (offerNotice code params s).pending = s.pending := by
  unfold offerNotice
  simp

@[simp] theorem joinQueue_frame (e : TxEntry) (s : State) :
    (joinQueue e s).intake = s.intake ∧ (joinQueue e s).norm = s.norm ∧ (joinQueue e s).period = s.period ∧
    (joinQueue e s).plant = s.plant ∧ (joinQueue e s).clock = s.clock ∧ (joinQueue e s).share = s.share ∧
    (joinQueue e s).store = s.store ∧ (joinQueue e s).mirror = s.mirror ∧ (joinQueue e s).readout = s.readout ∧
    (joinQueue e s).ctrl = s.ctrl ∧ (joinQueue e s).freeCount = s.freeCount ∧
    (joinQueue e s).pending = s.pending := by
  unfold joinQueue
  dsimp only
  (repeat' split) <;> simp

@[simp] theorem offerBroadcast_frame (k : FrameKind) (payload : List Byte) (s : State) :
    (offerBroadcast k payload s).intake = s.intake ∧ (offerBroadcast k payload s).norm = s.norm ∧
    (offerBroadcast k payload s).period = s.period ∧ (offerBroadcast k payload s).plant = s.plant ∧
    (offerBroadcast k payload s).clock = s.clock ∧ (offerBroadcast k payload s).share = s.share ∧
    (offerBroadcast k payload s).store = s.store ∧ (offerBroadcast k payload s).mirror = s.mirror ∧
    (offerBroadcast k payload s).readout = s.readout ∧ (offerBroadcast k payload s).ctrl = s.ctrl ∧
    (offerBroadcast k payload s).freeCount = s.freeCount ∧ (offerBroadcast k payload s).pending = s.pending := by
  unfold offerBroadcast
  simp

@[simp] theorem offerResult_frame (payload : List Byte) (s : State) :
    (offerResult payload s).intake = s.intake ∧ (offerResult payload s).norm = s.norm ∧
    (offerResult payload s).period = s.period ∧ (offerResult payload s).plant = s.plant ∧
    (offerResult payload s).clock = s.clock ∧ (offerResult payload s).share = s.share ∧
    (offerResult payload s).store = s.store ∧ (offerResult payload s).mirror = s.mirror ∧
    (offerResult payload s).readout = s.readout ∧ (offerResult payload s).ctrl = s.ctrl ∧
    (offerResult payload s).freeCount = s.freeCount ∧ (offerResult payload s).pending = s.pending := by
  unfold offerResult
  (repeat' split) <;> simp

@[simp] theorem offerReply_frame (k : FrameKind) (terminal taken : Nat) (payload : List Byte) (s : State) :
    (offerReply k terminal taken payload s).intake = s.intake ∧
    (offerReply k terminal taken payload s).norm = s.norm ∧
    (offerReply k terminal taken payload s).period = s.period ∧
    (offerReply k terminal taken payload s).plant = s.plant ∧
    (offerReply k terminal taken payload s).clock = s.clock ∧
    (offerReply k terminal taken payload s).share = s.share ∧
    (offerReply k terminal taken payload s).store = s.store ∧
    (offerReply k terminal taken payload s).mirror = s.mirror ∧
    (offerReply k terminal taken payload s).readout = s.readout ∧
    (offerReply k terminal taken payload s).ctrl = s.ctrl ∧
    (offerReply k terminal taken payload s).freeCount = s.freeCount ∧
    (offerReply k terminal taken payload s).pending = s.pending := by
  unfold offerReply
  (repeat' split) <;> simp

@[simp] theorem offerAnswer_frame (request : FrameKind) (terminal taken : Nat) (code : AnswerCode) (s : State) :
    (offerAnswer request terminal taken code s).intake = s.intake ∧
    (offerAnswer request terminal taken code s).norm = s.norm ∧
    (offerAnswer request terminal taken code s).period = s.period ∧
    (offerAnswer request terminal taken code s).plant = s.plant ∧
    (offerAnswer request terminal taken code s).clock = s.clock ∧
    (offerAnswer request terminal taken code s).share = s.share ∧
    (offerAnswer request terminal taken code s).store = s.store ∧
    (offerAnswer request terminal taken code s).mirror = s.mirror ∧
    (offerAnswer request terminal taken code s).readout = s.readout ∧
    (offerAnswer request terminal taken code s).ctrl = s.ctrl ∧
    (offerAnswer request terminal taken code s).freeCount = s.freeCount ∧
    (offerAnswer request terminal taken code s).pending = s.pending := by
  unfold offerAnswer
  simp

@[simp] theorem elapse_frame (dt : Nat) (s : State) :
    (elapse dt s).intake = s.intake ∧ (elapse dt s).norm = s.norm ∧ (elapse dt s).period = s.period ∧
    (elapse dt s).store = s.store ∧ (elapse dt s).mirror = s.mirror ∧ (elapse dt s).readout = s.readout ∧
    (elapse dt s).ctrl = s.ctrl ∧ (elapse dt s).freeCount = s.freeCount ∧ (elapse dt s).pending = s.pending := by
  unfold elapse
  simp

@[simp] theorem takeReading_frame (ch : Nat) (status : AnalyserStatus) (value : Int) (s : State) :
    (takeReading ch status value s).norm = s.norm ∧ (takeReading ch status value s).period = s.period ∧
    (takeReading ch status value s).plant = s.plant ∧ (takeReading ch status value s).clock = s.clock ∧
    (takeReading ch status value s).share = s.share ∧ (takeReading ch status value s).link = s.link ∧
    (takeReading ch status value s).store = s.store ∧ (takeReading ch status value s).mirror = s.mirror ∧
    (takeReading ch status value s).readout = s.readout ∧ (takeReading ch status value s).ctrl = s.ctrl ∧
    (takeReading ch status value s).freeCount = s.freeCount ∧
    (takeReading ch status value s).pending = s.pending := by
  unfold takeReading
  simp

@[simp] theorem countFrameError_frame (s : State) :
    (countFrameError s).norm = s.norm ∧ (countFrameError s).period = s.period ∧ (countFrameError s).plant = s.plant ∧
    (countFrameError s).clock = s.clock ∧ (countFrameError s).share = s.share ∧ (countFrameError s).link = s.link ∧
    (countFrameError s).store = s.store ∧ (countFrameError s).mirror = s.mirror ∧
    (countFrameError s).readout = s.readout ∧ (countFrameError s).ctrl = s.ctrl ∧
    (countFrameError s).freeCount = s.freeCount ∧ (countFrameError s).pending = s.pending := by
  unfold countFrameError
  simp

@[simp] theorem setPartial_frame (bytes : List Byte) (s : State) :
    (setPartial bytes s).norm = s.norm ∧ (setPartial bytes s).period = s.period ∧
    (setPartial bytes s).plant = s.plant ∧ (setPartial bytes s).clock = s.clock ∧
    (setPartial bytes s).share = s.share ∧ (setPartial bytes s).link = s.link ∧
    (setPartial bytes s).store = s.store ∧ (setPartial bytes s).mirror = s.mirror ∧
    (setPartial bytes s).readout = s.readout ∧ (setPartial bytes s).ctrl = s.ctrl ∧
    (setPartial bytes s).freeCount = s.freeCount ∧ (setPartial bytes s).pending = s.pending := by
  unfold setPartial
  simp

@[simp] theorem checkReadingFrame_frame (frame : List Byte) (s : State) :
    (checkReadingFrame frame s).norm = s.norm ∧ (checkReadingFrame frame s).period = s.period ∧
    (checkReadingFrame frame s).plant = s.plant ∧ (checkReadingFrame frame s).clock = s.clock ∧
    (checkReadingFrame frame s).share = s.share ∧ (checkReadingFrame frame s).link = s.link ∧
    (checkReadingFrame frame s).store = s.store ∧ (checkReadingFrame frame s).mirror = s.mirror ∧
    (checkReadingFrame frame s).readout = s.readout ∧ (checkReadingFrame frame s).ctrl = s.ctrl ∧
    (checkReadingFrame frame s).freeCount = s.freeCount ∧ (checkReadingFrame frame s).pending = s.pending := by
  unfold checkReadingFrame
  (repeat' split) <;> simp

@[simp] theorem receiveAnalyserByte_frame (s : State) (b : Byte) :
    (receiveAnalyserByte s b).norm = s.norm ∧ (receiveAnalyserByte s b).period = s.period ∧
    (receiveAnalyserByte s b).plant = s.plant ∧ (receiveAnalyserByte s b).clock = s.clock ∧
    (receiveAnalyserByte s b).share = s.share ∧ (receiveAnalyserByte s b).link = s.link ∧
    (receiveAnalyserByte s b).store = s.store ∧ (receiveAnalyserByte s b).mirror = s.mirror ∧
    (receiveAnalyserByte s b).readout = s.readout ∧ (receiveAnalyserByte s b).ctrl = s.ctrl ∧
    (receiveAnalyserByte s b).freeCount = s.freeCount ∧ (receiveAnalyserByte s b).pending = s.pending := by
  unfold receiveAnalyserByte
  dsimp only
  (repeat' split) <;> simp

@[simp] theorem reportToSummary_frame (f : YearSummary → YearSummary) (s : State) :
    (reportToSummary f s).intake = s.intake ∧ (reportToSummary f s).norm = s.norm ∧
    (reportToSummary f s).plant = s.plant ∧ (reportToSummary f s).clock = s.clock ∧
    (reportToSummary f s).share = s.share ∧ (reportToSummary f s).link = s.link ∧
    (reportToSummary f s).store = s.store ∧ (reportToSummary f s).mirror = s.mirror ∧
    (reportToSummary f s).readout = s.readout ∧ (reportToSummary f s).ctrl = s.ctrl ∧
    (reportToSummary f s).freeCount = s.freeCount ∧ (reportToSummary f s).pending = s.pending := by
  unfold reportToSummary
  (repeat' split) <;> simp

@[simp] theorem offerAbnEnd_frame (cause : Cause) (minutes : Nat) (s : State) :
    (offerAbnEnd cause minutes s).intake = s.intake ∧ (offerAbnEnd cause minutes s).norm = s.norm ∧
    (offerAbnEnd cause minutes s).period = s.period ∧ (offerAbnEnd cause minutes s).clock = s.clock ∧
    (offerAbnEnd cause minutes s).share = s.share ∧ (offerAbnEnd cause minutes s).link = s.link ∧
    (offerAbnEnd cause minutes s).mirror = s.mirror ∧ (offerAbnEnd cause minutes s).readout = s.readout ∧
    (offerAbnEnd cause minutes s).ctrl = s.ctrl ∧ (offerAbnEnd cause minutes s).freeCount = s.freeCount ∧
    (offerAbnEnd cause minutes s).pending = s.pending := by
  unfold offerAbnEnd
  simp

@[simp] theorem enterCutoff_frame (cause : CutoffCause) (s : State) :
    (enterCutoff cause s).intake = s.intake ∧ (enterCutoff cause s).norm = s.norm ∧
    (enterCutoff cause s).clock = s.clock ∧ (enterCutoff cause s).share = s.share ∧
    (enterCutoff cause s).link = s.link ∧ (enterCutoff cause s).mirror = s.mirror ∧
    (enterCutoff cause s).readout = s.readout ∧ (enterCutoff cause s).ctrl = s.ctrl ∧
    (enterCutoff cause s).freeCount = s.freeCount ∧ (enterCutoff cause s).pending = s.pending := by
  unfold enterCutoff
  simp

@[simp] theorem cutoffFromAbnormal_frame (cause : CutoffCause) (ending : Cause) (s : State) :
    (cutoffFromAbnormal cause ending s).intake = s.intake ∧ (cutoffFromAbnormal cause ending s).norm = s.norm ∧
    (cutoffFromAbnormal cause ending s).clock = s.clock ∧ (cutoffFromAbnormal cause ending s).share = s.share ∧
    (cutoffFromAbnormal cause ending s).link = s.link ∧ (cutoffFromAbnormal cause ending s).mirror = s.mirror ∧
    (cutoffFromAbnormal cause ending s).readout = s.readout ∧ (cutoffFromAbnormal cause ending s).ctrl = s.ctrl ∧
    (cutoffFromAbnormal cause ending s).freeCount = s.freeCount ∧
    (cutoffFromAbnormal cause ending s).pending = s.pending := by
  unfold cutoffFromAbnormal
  simp

@[simp] theorem checkLimits_frame (s : State) :
    (checkLimits s).intake = s.intake ∧ (checkLimits s).norm = s.norm ∧ (checkLimits s).clock = s.clock ∧
    (checkLimits s).share = s.share ∧ (checkLimits s).link = s.link ∧ (checkLimits s).mirror = s.mirror ∧
    (checkLimits s).readout = s.readout ∧ (checkLimits s).ctrl = s.ctrl ∧ (checkLimits s).freeCount = s.freeCount ∧
    (checkLimits s).pending = s.pending := by
  unfold checkLimits
  (repeat' split) <;> simp

@[simp] theorem enterAbnormal_frame (cause : Cause) (carried : Nat) (s : State) :
    (enterAbnormal cause carried s).intake = s.intake ∧ (enterAbnormal cause carried s).norm = s.norm ∧
    (enterAbnormal cause carried s).clock = s.clock ∧ (enterAbnormal cause carried s).share = s.share ∧
    (enterAbnormal cause carried s).link = s.link ∧ (enterAbnormal cause carried s).mirror = s.mirror ∧
    (enterAbnormal cause carried s).readout = s.readout ∧ (enterAbnormal cause carried s).ctrl = s.ctrl ∧
    (enterAbnormal cause carried s).freeCount = s.freeCount ∧
    (enterAbnormal cause carried s).pending = s.pending := by
  unfold enterAbnormal
  simp

@[simp] theorem endEpisode_frame (cause : Cause) (s : State) :
    (endEpisode cause s).intake = s.intake ∧ (endEpisode cause s).norm = s.norm ∧
    (endEpisode cause s).period = s.period ∧ (endEpisode cause s).clock = s.clock ∧
    (endEpisode cause s).share = s.share ∧ (endEpisode cause s).link = s.link ∧
    (endEpisode cause s).mirror = s.mirror ∧ (endEpisode cause s).readout = s.readout ∧
    (endEpisode cause s).ctrl = s.ctrl ∧ (endEpisode cause s).freeCount = s.freeCount ∧
    (endEpisode cause s).pending = s.pending := by
  unfold endEpisode
  simp

@[simp] theorem edgeMachine_frame (line : InputLine) (active : Bool) (s : State) :
    (edgeMachine line active s).intake = s.intake ∧ (edgeMachine line active s).norm = s.norm ∧
    (edgeMachine line active s).clock = s.clock ∧ (edgeMachine line active s).share = s.share ∧
    (edgeMachine line active s).link = s.link ∧ (edgeMachine line active s).mirror = s.mirror ∧
    (edgeMachine line active s).readout = s.readout ∧ (edgeMachine line active s).ctrl = s.ctrl ∧
    (edgeMachine line active s).freeCount = s.freeCount ∧ (edgeMachine line active s).pending = s.pending := by
  unfold edgeMachine
  (repeat' split) <;> simp

@[simp] theorem takeEdge_frame (line : InputLine) (active : Bool) (s : State) :
    (takeEdge line active s).intake = s.intake ∧ (takeEdge line active s).norm = s.norm ∧
    (takeEdge line active s).clock = s.clock ∧ (takeEdge line active s).link = s.link ∧
    (takeEdge line active s).mirror = s.mirror ∧ (takeEdge line active s).readout = s.readout ∧
    (takeEdge line active s).ctrl = s.ctrl ∧ (takeEdge line active s).freeCount = s.freeCount ∧
    (takeEdge line active s).pending = s.pending := by
  unfold takeEdge
  dsimp only
  (repeat' split) <;> simp

@[simp] theorem beginMinuteFlags_frame (s : State) :
    (beginMinuteFlags s).intake = s.intake ∧ (beginMinuteFlags s).norm = s.norm ∧
    (beginMinuteFlags s).period = s.period ∧ (beginMinuteFlags s).clock = s.clock ∧
    (beginMinuteFlags s).share = s.share ∧ (beginMinuteFlags s).link = s.link ∧
    (beginMinuteFlags s).store = s.store ∧ (beginMinuteFlags s).mirror = s.mirror ∧
    (beginMinuteFlags s).readout = s.readout ∧ (beginMinuteFlags s).ctrl = s.ctrl ∧
    (beginMinuteFlags s).freeCount = s.freeCount ∧ (beginMinuteFlags s).pending = s.pending := by
  unfold beginMinuteFlags
  simp

@[simp] theorem copyClosedFlags_frame (s : State) :
    (copyClosedFlags s).intake = s.intake ∧ (copyClosedFlags s).norm = s.norm ∧
    (copyClosedFlags s).period = s.period ∧ (copyClosedFlags s).clock = s.clock ∧
    (copyClosedFlags s).share = s.share ∧ (copyClosedFlags s).link = s.link ∧ (copyClosedFlags s).store = s.store ∧
    (copyClosedFlags s).mirror = s.mirror ∧ (copyClosedFlags s).readout = s.readout ∧
    (copyClosedFlags s).ctrl = s.ctrl ∧ (copyClosedFlags s).freeCount = s.freeCount ∧
    (copyClosedFlags s).pending = s.pending := by
  unfold copyClosedFlags
  simp

@[simp] theorem countMinute_frame (s : State) :
    (countMinute s).intake = s.intake ∧ (countMinute s).norm = s.norm ∧ (countMinute s).clock = s.clock ∧
    (countMinute s).share = s.share ∧ (countMinute s).link = s.link ∧ (countMinute s).mirror = s.mirror ∧
    (countMinute s).readout = s.readout ∧ (countMinute s).ctrl = s.ctrl ∧ (countMinute s).freeCount = s.freeCount ∧
    (countMinute s).pending = s.pending := by
  unfold countMinute
  dsimp only
  (repeat' split) <;> simp

@[simp] theorem settleCountYear_frame (year : Nat) (s : State) :
    (settleCountYear year s).intake = s.intake ∧ (settleCountYear year s).norm = s.norm ∧
    (settleCountYear year s).period = s.period ∧ (settleCountYear year s).clock = s.clock ∧
    (settleCountYear year s).share = s.share ∧ (settleCountYear year s).link = s.link ∧
    (settleCountYear year s).store = s.store ∧ (settleCountYear year s).mirror = s.mirror ∧
    (settleCountYear year s).readout = s.readout ∧ (settleCountYear year s).ctrl = s.ctrl ∧
    (settleCountYear year s).freeCount = s.freeCount ∧ (settleCountYear year s).pending = s.pending := by
  unfold settleCountYear
  (repeat' split) <;> simp

@[simp] theorem plantMinuteClose_frame (year : Nat) (s : State) :
    (plantMinuteClose year s).intake = s.intake ∧ (plantMinuteClose year s).norm = s.norm ∧
    (plantMinuteClose year s).clock = s.clock ∧ (plantMinuteClose year s).share = s.share ∧
    (plantMinuteClose year s).link = s.link ∧ (plantMinuteClose year s).mirror = s.mirror ∧
    (plantMinuteClose year s).readout = s.readout ∧ (plantMinuteClose year s).ctrl = s.ctrl ∧
    (plantMinuteClose year s).freeCount = s.freeCount ∧ (plantMinuteClose year s).pending = s.pending := by
  unfold plantMinuteClose
  simp

@[simp] theorem startUntimedTimer_frame (s : State) :
    (startUntimedTimer s).intake = s.intake ∧ (startUntimedTimer s).norm = s.norm ∧
    (startUntimedTimer s).period = s.period ∧ (startUntimedTimer s).clock = s.clock ∧
    (startUntimedTimer s).share = s.share ∧ (startUntimedTimer s).link = s.link ∧
    (startUntimedTimer s).store = s.store ∧ (startUntimedTimer s).mirror = s.mirror ∧
    (startUntimedTimer s).readout = s.readout ∧ (startUntimedTimer s).ctrl = s.ctrl ∧
    (startUntimedTimer s).freeCount = s.freeCount ∧ (startUntimedTimer s).pending = s.pending := by
  unfold startUntimedTimer
  simp

@[simp] theorem untimedExpiry_frame (s : State) :
    (untimedExpiry s).intake = s.intake ∧ (untimedExpiry s).norm = s.norm ∧ (untimedExpiry s).clock = s.clock ∧
    (untimedExpiry s).share = s.share ∧ (untimedExpiry s).link = s.link ∧ (untimedExpiry s).mirror = s.mirror ∧
    (untimedExpiry s).readout = s.readout ∧ (untimedExpiry s).ctrl = s.ctrl ∧
    (untimedExpiry s).freeCount = s.freeCount ∧ (untimedExpiry s).pending = s.pending := by
  unfold untimedExpiry
  simp

@[simp] theorem stopUntimedTimer_frame (year : Nat) (s : State) :
    (stopUntimedTimer year s).intake = s.intake ∧ (stopUntimedTimer year s).norm = s.norm ∧
    (stopUntimedTimer year s).clock = s.clock ∧ (stopUntimedTimer year s).share = s.share ∧
    (stopUntimedTimer year s).link = s.link ∧ (stopUntimedTimer year s).mirror = s.mirror ∧
    (stopUntimedTimer year s).readout = s.readout ∧ (stopUntimedTimer year s).ctrl = s.ctrl ∧
    (stopUntimedTimer year s).freeCount = s.freeCount ∧ (stopUntimedTimer year s).pending = s.pending := by
  unfold stopUntimedTimer
  (repeat' split) <;> simp

@[simp] theorem takeRelease_frame (terminal : Nat) (s : State) :
    (takeRelease terminal s).1.intake = s.intake ∧ (takeRelease terminal s).1.norm = s.norm ∧
    (takeRelease terminal s).1.period = s.period ∧ (takeRelease terminal s).1.clock = s.clock ∧
    (takeRelease terminal s).1.share = s.share ∧ (takeRelease terminal s).1.link = s.link ∧
    (takeRelease terminal s).1.mirror = s.mirror ∧ (takeRelease terminal s).1.readout = s.readout ∧
    (takeRelease terminal s).1.ctrl = s.ctrl ∧ (takeRelease terminal s).1.freeCount = s.freeCount ∧
    (takeRelease terminal s).1.pending = s.pending := by
  unfold takeRelease
  (repeat' split) <;> simp

@[simp] theorem takeLoad_frame (sender : Nat) (f : LoadFields) (s : State) :
    (takeLoad sender f s).intake = s.intake ∧ (takeLoad sender f s).norm = s.norm ∧
    (takeLoad sender f s).period = s.period ∧ (takeLoad sender f s).plant = s.plant ∧
    (takeLoad sender f s).clock = s.clock ∧ (takeLoad sender f s).link = s.link ∧
    (takeLoad sender f s).store = s.store ∧ (takeLoad sender f s).mirror = s.mirror ∧
    (takeLoad sender f s).readout = s.readout ∧ (takeLoad sender f s).ctrl = s.ctrl ∧
    (takeLoad sender f s).freeCount = s.freeCount ∧ (takeLoad sender f s).pending = s.pending := by
  unfold takeLoad
  (repeat' split) <;> simp

@[simp] theorem beginFireSeen_frame (s : State) :
    (beginFireSeen s).intake = s.intake ∧ (beginFireSeen s).norm = s.norm ∧ (beginFireSeen s).period = s.period ∧
    (beginFireSeen s).plant = s.plant ∧ (beginFireSeen s).clock = s.clock ∧ (beginFireSeen s).link = s.link ∧
    (beginFireSeen s).store = s.store ∧ (beginFireSeen s).mirror = s.mirror ∧ (beginFireSeen s).readout = s.readout ∧
    (beginFireSeen s).ctrl = s.ctrl ∧ (beginFireSeen s).freeCount = s.freeCount ∧
    (beginFireSeen s).pending = s.pending := by
  unfold beginFireSeen
  simp

@[simp] theorem shareMinuteClose_frame (r : LoadReport) (s : State) :
    (shareMinuteClose r s).intake = s.intake ∧ (shareMinuteClose r s).norm = s.norm ∧
    (shareMinuteClose r s).period = s.period ∧ (shareMinuteClose r s).plant = s.plant ∧
    (shareMinuteClose r s).clock = s.clock ∧ (shareMinuteClose r s).store = s.store ∧
    (shareMinuteClose r s).mirror = s.mirror ∧ (shareMinuteClose r s).readout = s.readout ∧
    (shareMinuteClose r s).ctrl = s.ctrl ∧ (shareMinuteClose r s).freeCount = s.freeCount ∧
    (shareMinuteClose r s).pending = s.pending := by
  unfold shareMinuteClose
  dsimp only
  (repeat' split) <;> simp

@[simp] theorem takeMinute_frame (r : MinuteResult) (s : State) :
    (takeMinute r s).intake = s.intake ∧ (takeMinute r s).norm = s.norm ∧ (takeMinute r s).plant = s.plant ∧
    (takeMinute r s).clock = s.clock ∧ (takeMinute r s).share = s.share ∧ (takeMinute r s).link = s.link ∧
    (takeMinute r s).store = s.store ∧ (takeMinute r s).mirror = s.mirror ∧ (takeMinute r s).readout = s.readout ∧
    (takeMinute r s).ctrl = s.ctrl ∧ (takeMinute r s).freeCount = s.freeCount ∧
    (takeMinute r s).pending = s.pending := by
  unfold takeMinute
  (repeat' split) <;> simp

@[simp] theorem setSummary_frame (y : YearSummary) (s : State) :
    (setSummary y s).intake = s.intake ∧ (setSummary y s).norm = s.norm ∧ (setSummary y s).plant = s.plant ∧
    (setSummary y s).clock = s.clock ∧ (setSummary y s).share = s.share ∧ (setSummary y s).link = s.link ∧
    (setSummary y s).store = s.store ∧ (setSummary y s).mirror = s.mirror ∧ (setSummary y s).readout = s.readout ∧
    (setSummary y s).ctrl = s.ctrl ∧ (setSummary y s).freeCount = s.freeCount ∧
    (setSummary y s).pending = s.pending := by
  unfold setSummary
  simp

@[simp] theorem offerYear_frame (year : Nat) (s : State) :
    (offerYear year s).intake = s.intake ∧ (offerYear year s).norm = s.norm ∧ (offerYear year s).period = s.period ∧
    (offerYear year s).clock = s.clock ∧ (offerYear year s).share = s.share ∧ (offerYear year s).link = s.link ∧
    (offerYear year s).mirror = s.mirror ∧ (offerYear year s).readout = s.readout ∧
    (offerYear year s).ctrl = s.ctrl ∧ (offerYear year s).freeCount = s.freeCount ∧
    (offerYear year s).pending = s.pending := by
  unfold offerYear
  simp

@[simp] theorem restartSummary_frame (year : Nat) (s : State) :
    (restartSummary year s).intake = s.intake ∧ (restartSummary year s).norm = s.norm ∧
    (restartSummary year s).plant = s.plant ∧ (restartSummary year s).clock = s.clock ∧
    (restartSummary year s).share = s.share ∧ (restartSummary year s).link = s.link ∧
    (restartSummary year s).store = s.store ∧ (restartSummary year s).mirror = s.mirror ∧
    (restartSummary year s).readout = s.readout ∧ (restartSummary year s).ctrl = s.ctrl ∧
    (restartSummary year s).freeCount = s.freeCount ∧ (restartSummary year s).pending = s.pending := by
  unfold restartSummary
  simp

@[simp] theorem yearClose_frame (s : State) :
    (yearClose s).intake = s.intake ∧ (yearClose s).norm = s.norm ∧ (yearClose s).clock = s.clock ∧
    (yearClose s).share = s.share ∧ (yearClose s).link = s.link ∧ (yearClose s).mirror = s.mirror ∧
    (yearClose s).readout = s.readout ∧ (yearClose s).ctrl = s.ctrl ∧ (yearClose s).freeCount = s.freeCount ∧
    (yearClose s).pending = s.pending := by
  unfold yearClose
  (repeat' split) <;> simp

@[simp] theorem dayClose_frame (s : State) :
    (dayClose s).intake = s.intake ∧ (dayClose s).norm = s.norm ∧ (dayClose s).clock = s.clock ∧
    (dayClose s).share = s.share ∧ (dayClose s).link = s.link ∧ (dayClose s).mirror = s.mirror ∧
    (dayClose s).readout = s.readout ∧ (dayClose s).ctrl = s.ctrl ∧ (dayClose s).freeCount = s.freeCount ∧
    (dayClose s).pending = s.pending := by
  unfold dayClose
  (repeat' split) <;> simp

@[simp] theorem formDay_frame (i : Id) (s : State) :
    (formDay i s).intake = s.intake ∧ (formDay i s).norm = s.norm ∧ (formDay i s).plant = s.plant ∧
    (formDay i s).clock = s.clock ∧ (formDay i s).share = s.share ∧ (formDay i s).link = s.link ∧
    (formDay i s).store = s.store ∧ (formDay i s).mirror = s.mirror ∧ (formDay i s).readout = s.readout ∧
    (formDay i s).ctrl = s.ctrl ∧ (formDay i s).freeCount = s.freeCount ∧ (formDay i s).pending = s.pending := by
  unfold formDay
  (repeat' split) <;> simp

@[simp] theorem openInterval_frame (i : Id) (isPartial : Bool) (s : State) :
    (openInterval i isPartial s).intake = s.intake ∧ (openInterval i isPartial s).norm = s.norm ∧
    (openInterval i isPartial s).plant = s.plant ∧ (openInterval i isPartial s).clock = s.clock ∧
    (openInterval i isPartial s).share = s.share ∧ (openInterval i isPartial s).link = s.link ∧
    (openInterval i isPartial s).store = s.store ∧ (openInterval i isPartial s).mirror = s.mirror ∧
    (openInterval i isPartial s).readout = s.readout ∧ (openInterval i isPartial s).ctrl = s.ctrl ∧
    (openInterval i isPartial s).freeCount = s.freeCount ∧ (openInterval i isPartial s).pending = s.pending := by
  unfold openInterval
  simp

@[simp] theorem countGap_frame (l x : Id) (s : State) :
    (countGap l x s).intake = s.intake ∧ (countGap l x s).norm = s.norm ∧ (countGap l x s).plant = s.plant ∧
    (countGap l x s).clock = s.clock ∧ (countGap l x s).share = s.share ∧ (countGap l x s).link = s.link ∧
    (countGap l x s).store = s.store ∧ (countGap l x s).mirror = s.mirror ∧ (countGap l x s).readout = s.readout ∧
    (countGap l x s).ctrl = s.ctrl ∧ (countGap l x s).freeCount = s.freeCount ∧
    (countGap l x s).pending = s.pending := by
  unfold countGap
  (repeat' split) <;> simp

@[simp] theorem closeLateDay_frame (x : Id) (s : State) :
    (closeLateDay x s).1.intake = s.intake ∧ (closeLateDay x s).1.norm = s.norm ∧
    (closeLateDay x s).1.clock = s.clock ∧ (closeLateDay x s).1.share = s.share ∧
    (closeLateDay x s).1.link = s.link ∧ (closeLateDay x s).1.mirror = s.mirror ∧
    (closeLateDay x s).1.readout = s.readout ∧ (closeLateDay x s).1.ctrl = s.ctrl ∧
    (closeLateDay x s).1.freeCount = s.freeCount ∧ (closeLateDay x s).1.pending = s.pending := by
  unfold closeLateDay
  dsimp only
  (repeat' split) <;> simp

@[simp] theorem lateYear_frame (x : Id) (entered : Bool) (s : State) :
    (lateYear x entered s).intake = s.intake ∧ (lateYear x entered s).norm = s.norm ∧
    (lateYear x entered s).clock = s.clock ∧ (lateYear x entered s).share = s.share ∧
    (lateYear x entered s).link = s.link ∧ (lateYear x entered s).mirror = s.mirror ∧
    (lateYear x entered s).readout = s.readout ∧ (lateYear x entered s).ctrl = s.ctrl ∧
    (lateYear x entered s).freeCount = s.freeCount ∧ (lateYear x entered s).pending = s.pending := by
  unfold lateYear
  (repeat' split) <;> simp

@[simp] theorem firstSummaryYear_frame (x : Id) (s : State) :
    (firstSummaryYear x s).intake = s.intake ∧ (firstSummaryYear x s).norm = s.norm ∧
    (firstSummaryYear x s).plant = s.plant ∧ (firstSummaryYear x s).clock = s.clock ∧
    (firstSummaryYear x s).share = s.share ∧ (firstSummaryYear x s).link = s.link ∧
    (firstSummaryYear x s).store = s.store ∧ (firstSummaryYear x s).mirror = s.mirror ∧
    (firstSummaryYear x s).readout = s.readout ∧ (firstSummaryYear x s).ctrl = s.ctrl ∧
    (firstSummaryYear x s).freeCount = s.freeCount ∧ (firstSummaryYear x s).pending = s.pending := by
  unfold firstSummaryYear
  (repeat' split) <;> simp

@[simp] theorem offerGap_frame (l x : Id) (s : State) :
    (offerGap l x s).intake = s.intake ∧ (offerGap l x s).norm = s.norm ∧ (offerGap l x s).period = s.period ∧
    (offerGap l x s).clock = s.clock ∧ (offerGap l x s).share = s.share ∧ (offerGap l x s).link = s.link ∧
    (offerGap l x s).mirror = s.mirror ∧ (offerGap l x s).readout = s.readout ∧ (offerGap l x s).ctrl = s.ctrl ∧
    (offerGap l x s).freeCount = s.freeCount ∧ (offerGap l x s).pending = s.pending := by
  unfold offerGap
  simp

@[simp] theorem openFirst_frame (x : Id) (isPartial : Bool) (s : State) :
    (openFirst x isPartial s).intake = s.intake ∧ (openFirst x isPartial s).norm = s.norm ∧
    (openFirst x isPartial s).clock = s.clock ∧ (openFirst x isPartial s).share = s.share ∧
    (openFirst x isPartial s).link = s.link ∧ (openFirst x isPartial s).mirror = s.mirror ∧
    (openFirst x isPartial s).readout = s.readout ∧ (openFirst x isPartial s).ctrl = s.ctrl ∧
    (openFirst x isPartial s).freeCount = s.freeCount ∧ (openFirst x isPartial s).pending = s.pending := by
  unfold openFirst
  dsimp only
  (repeat' split) <;> simp

@[simp] theorem closeOpenInterval_frame (o : OpenInterval) (fate : Fate) (s : State) :
    (closeOpenInterval o fate s).intake = s.intake ∧ (closeOpenInterval o fate s).norm = s.norm ∧
    (closeOpenInterval o fate s).clock = s.clock ∧ (closeOpenInterval o fate s).share = s.share ∧
    (closeOpenInterval o fate s).link = s.link ∧ (closeOpenInterval o fate s).mirror = s.mirror ∧
    (closeOpenInterval o fate s).readout = s.readout ∧ (closeOpenInterval o fate s).ctrl = s.ctrl ∧
    (closeOpenInterval o fate s).freeCount = s.freeCount ∧ (closeOpenInterval o fate s).pending = s.pending := by
  unfold closeOpenInterval
  (repeat' split) <;> simp

@[simp] theorem periodIntervalClose_frame (early : Bool) (next : Id) (s : State) :
    (periodIntervalClose early next s).intake = s.intake ∧ (periodIntervalClose early next s).norm = s.norm ∧
    (periodIntervalClose early next s).clock = s.clock ∧ (periodIntervalClose early next s).share = s.share ∧
    (periodIntervalClose early next s).link = s.link ∧ (periodIntervalClose early next s).mirror = s.mirror ∧
    (periodIntervalClose early next s).readout = s.readout ∧ (periodIntervalClose early next s).ctrl = s.ctrl ∧
    (periodIntervalClose early next s).freeCount = s.freeCount ∧
    (periodIntervalClose early next s).pending = s.pending := by
  unfold periodIntervalClose
  (repeat' split) <;> simp

@[simp] theorem interruptPeriod_frame (s : State) :
    (interruptPeriod s).intake = s.intake ∧ (interruptPeriod s).norm = s.norm ∧ (interruptPeriod s).clock = s.clock ∧
    (interruptPeriod s).share = s.share ∧ (interruptPeriod s).link = s.link ∧ (interruptPeriod s).mirror = s.mirror ∧
    (interruptPeriod s).readout = s.readout ∧ (interruptPeriod s).ctrl = s.ctrl ∧
    (interruptPeriod s).freeCount = s.freeCount ∧ (interruptPeriod s).pending = s.pending := by
  unfold interruptPeriod
  (repeat' split) <;> simp

@[simp] theorem enterRecordingByTime_frame (t : StationTime) (s : State) :
    (enterRecordingByTime t s).intake = s.intake ∧ (enterRecordingByTime t s).norm = s.norm ∧
    (enterRecordingByTime t s).clock = s.clock ∧ (enterRecordingByTime t s).share = s.share ∧
    (enterRecordingByTime t s).link = s.link ∧ (enterRecordingByTime t s).mirror = s.mirror ∧
    (enterRecordingByTime t s).readout = s.readout ∧ (enterRecordingByTime t s).ctrl = s.ctrl ∧
    (enterRecordingByTime t s).freeCount = s.freeCount ∧ (enterRecordingByTime t s).pending = s.pending := by
  unfold enterRecordingByTime
  (repeat' split) <;> simp

end Sys2Proof.Laws
end

