-- ==== Sys2Proof/Laws/FramesStore.lean ====
section
/-! SUPPORT. What the operations of the record store leave alone. -/

namespace Sys2Proof.Laws

open Sys2Proof.Machine

/-- A fold of an operation that leaves something of the state alone leaves it alone. -/
theorem foldl_keeps {α β : Type} (f : State → α → State) (p : State → β) (h : ∀ s a, p (f s a) = p s) (l : List α) (s : State) :
    p (l.foldl f s) = p s := by
  induction l generalizing s with
  | nil => rfl
  | cons a l ih => simp [List.foldl, ih, h]

@[simp] theorem setIndex_frame (r : SlotImage) (block slot : Nat) (s : State) :
    (setIndex r block slot s).intake = s.intake ∧ (setIndex r block slot s).norm = s.norm ∧
    (setIndex r block slot s).period = s.period ∧ (setIndex r block slot s).plant = s.plant ∧
    (setIndex r block slot s).clock = s.clock ∧ (setIndex r block slot s).share = s.share ∧
    (setIndex r block slot s).link = s.link ∧ (setIndex r block slot s).mirror = s.mirror ∧
    (setIndex r block slot s).readout = s.readout ∧ (setIndex r block slot s).ctrl = s.ctrl ∧
    (setIndex r block slot s).freeCount = s.freeCount ∧ (setIndex r block slot s).pending = s.pending := by
  unfold setIndex
  (repeat' split) <;> simp

@[simp] theorem advanceIndexYear_frame (year : Nat) (s : State) :
    (advanceIndexYear year s).intake = s.intake ∧ (advanceIndexYear year s).norm = s.norm ∧
    (advanceIndexYear year s).period = s.period ∧ (advanceIndexYear year s).plant = s.plant ∧
    (advanceIndexYear year s).clock = s.clock ∧ (advanceIndexYear year s).share = s.share ∧
    (advanceIndexYear year s).link = s.link ∧ (advanceIndexYear year s).mirror = s.mirror ∧
    (advanceIndexYear year s).readout = s.readout ∧ (advanceIndexYear year s).ctrl = s.ctrl ∧
    (advanceIndexYear year s).freeCount = s.freeCount ∧ (advanceIndexYear year s).pending = s.pending := by
  unfold advanceIndexYear
  (repeat' split) <;> simp

@[simp] theorem pruneIndex_frame (s : State) :
    (pruneIndex s).intake = s.intake ∧ (pruneIndex s).norm = s.norm ∧ (pruneIndex s).period = s.period ∧
    (pruneIndex s).plant = s.plant ∧ (pruneIndex s).clock = s.clock ∧ (pruneIndex s).share = s.share ∧
    (pruneIndex s).link = s.link ∧ (pruneIndex s).mirror = s.mirror ∧ (pruneIndex s).readout = s.readout ∧
    (pruneIndex s).ctrl = s.ctrl ∧ (pruneIndex s).freeCount = s.freeCount ∧ (pruneIndex s).pending = s.pending := by
  unfold pruneIndex
  simp

@[simp] theorem moveIndex_frame (source target : Nat) (s : State) :
    (moveIndex source target s).intake = s.intake ∧ (moveIndex source target s).norm = s.norm ∧
    (moveIndex source target s).period = s.period ∧ (moveIndex source target s).plant = s.plant ∧
    (moveIndex source target s).clock = s.clock ∧ (moveIndex source target s).share = s.share ∧
    (moveIndex source target s).link = s.link ∧ (moveIndex source target s).mirror = s.mirror ∧
    (moveIndex source target s).readout = s.readout ∧ (moveIndex source target s).ctrl = s.ctrl ∧
    (moveIndex source target s).freeCount = s.freeCount ∧ (moveIndex source target s).pending = s.pending := by
  unfold moveIndex
  simp

@[simp] theorem repointIndex_frame (b : Nat) (s : State) :
    (repointIndex b s).intake = s.intake ∧ (repointIndex b s).norm = s.norm ∧ (repointIndex b s).period = s.period ∧
    (repointIndex b s).plant = s.plant ∧ (repointIndex b s).clock = s.clock ∧ (repointIndex b s).share = s.share ∧
    (repointIndex b s).link = s.link ∧ (repointIndex b s).mirror = s.mirror ∧
    (repointIndex b s).readout = s.readout ∧ (repointIndex b s).ctrl = s.ctrl ∧
    (repointIndex b s).freeCount = s.freeCount ∧ (repointIndex b s).pending = s.pending := by
  unfold repointIndex
  (repeat' split) <;> simp

@[simp] theorem addGap_frame (origin n : Nat) (s : State) :
    (addGap origin n s).intake = s.intake ∧ (addGap origin n s).norm = s.norm ∧
    (addGap origin n s).period = s.period ∧ (addGap origin n s).plant = s.plant ∧
    (addGap origin n s).clock = s.clock ∧ (addGap origin n s).share = s.share ∧ (addGap origin n s).link = s.link ∧
    (addGap origin n s).store = s.store ∧ (addGap origin n s).readout = s.readout ∧
    (addGap origin n s).ctrl = s.ctrl ∧ (addGap origin n s).freeCount = s.freeCount ∧
    (addGap origin n s).pending = s.pending := by
  unfold addGap
  simp

@[simp] theorem dropMirror_frame (s : State) (r : SlotImage) :
    (dropMirror s r).intake = s.intake ∧ (dropMirror s r).norm = s.norm ∧ (dropMirror s r).period = s.period ∧
    (dropMirror s r).plant = s.plant ∧ (dropMirror s r).clock = s.clock ∧ (dropMirror s r).share = s.share ∧
    (dropMirror s r).link = s.link ∧ (dropMirror s r).store = s.store ∧ (dropMirror s r).readout = s.readout ∧
    (dropMirror s r).ctrl = s.ctrl ∧ (dropMirror s r).freeCount = s.freeCount ∧
    (dropMirror s r).pending = s.pending := by
  unfold dropMirror
  simp

/-- Drops of mirror records touch the gap counts alone. -/
@[simp] theorem foldl_dropMirror_frame (l : List SlotImage) (s : State) :
    (l.foldl dropMirror s).intake = s.intake ∧
    (l.foldl dropMirror s).norm = s.norm ∧
    (l.foldl dropMirror s).period = s.period ∧
    (l.foldl dropMirror s).plant = s.plant ∧
    (l.foldl dropMirror s).clock = s.clock ∧
    (l.foldl dropMirror s).share = s.share ∧
    (l.foldl dropMirror s).link = s.link ∧
    (l.foldl dropMirror s).store = s.store ∧
    (l.foldl dropMirror s).readout = s.readout ∧
    (l.foldl dropMirror s).ctrl = s.ctrl ∧
    (l.foldl dropMirror s).freeCount = s.freeCount ∧
    (l.foldl dropMirror s).pending = s.pending := by
  refine ⟨?_, ?_, ?_, ?_, ?_, ?_, ?_, ?_, ?_, ?_, ?_, ?_⟩ <;> exact foldl_keeps _ _ (by intro s a; simp) l s

@[simp] theorem stallMirror_frame (s : State) :
    (stallMirror s).intake = s.intake ∧ (stallMirror s).norm = s.norm ∧ (stallMirror s).period = s.period ∧
    (stallMirror s).plant = s.plant ∧ (stallMirror s).clock = s.clock ∧ (stallMirror s).share = s.share ∧
    (stallMirror s).link = s.link ∧ (stallMirror s).readout = s.readout ∧ (stallMirror s).ctrl = s.ctrl ∧
    (stallMirror s).freeCount = s.freeCount ∧ (stallMirror s).pending = s.pending := by
  unfold stallMirror
  simp

@[simp] theorem stallArea_frame (a : Area) (s : State) :
    (stallArea a s).intake = s.intake ∧ (stallArea a s).norm = s.norm ∧ (stallArea a s).period = s.period ∧
    (stallArea a s).plant = s.plant ∧ (stallArea a s).clock = s.clock ∧ (stallArea a s).share = s.share ∧
    (stallArea a s).link = s.link ∧ (stallArea a s).readout = s.readout ∧ (stallArea a s).ctrl = s.ctrl ∧
    (stallArea a s).freeCount = s.freeCount ∧ (stallArea a s).pending = s.pending := by
  unfold stallArea
  (repeat' split) <;> simp

@[simp] theorem recheckStalled_frame (s : State) :
    (recheckStalled s).intake = s.intake ∧ (recheckStalled s).norm = s.norm ∧ (recheckStalled s).period = s.period ∧
    (recheckStalled s).plant = s.plant ∧ (recheckStalled s).clock = s.clock ∧ (recheckStalled s).share = s.share ∧
    (recheckStalled s).link = s.link ∧ (recheckStalled s).mirror = s.mirror ∧
    (recheckStalled s).readout = s.readout ∧ (recheckStalled s).ctrl = s.ctrl ∧
    (recheckStalled s).freeCount = s.freeCount ∧ (recheckStalled s).pending = s.pending := by
  unfold recheckStalled
  simp

@[simp] theorem beginErase_frame (b : Nat) (purpose : ErasePurpose) (s : State) :
    (beginErase b purpose s).intake = s.intake ∧ (beginErase b purpose s).norm = s.norm ∧
    (beginErase b purpose s).period = s.period ∧ (beginErase b purpose s).plant = s.plant ∧
    (beginErase b purpose s).clock = s.clock ∧ (beginErase b purpose s).share = s.share ∧
    (beginErase b purpose s).link = s.link ∧ (beginErase b purpose s).mirror = s.mirror ∧
    (beginErase b purpose s).readout = s.readout ∧ (beginErase b purpose s).ctrl = s.ctrl ∧
    (beginErase b purpose s).freeCount = s.freeCount ∧ (beginErase b purpose s).pending = s.pending := by
  unfold beginErase
  (repeat' split) <;> simp

@[simp] theorem takeSequence_frame (s : State) :
    (takeSequence s).intake = s.intake ∧ (takeSequence s).norm = s.norm ∧ (takeSequence s).period = s.period ∧
    (takeSequence s).plant = s.plant ∧ (takeSequence s).clock = s.clock ∧ (takeSequence s).share = s.share ∧
    (takeSequence s).link = s.link ∧ (takeSequence s).mirror = s.mirror ∧ (takeSequence s).readout = s.readout ∧
    (takeSequence s).ctrl = s.ctrl ∧ (takeSequence s).freeCount = s.freeCount ∧
    (takeSequence s).pending = s.pending := by
  unfold takeSequence
  simp

@[simp] theorem takeErased_frame (s : State) :
    (takeErased s).intake = s.intake ∧ (takeErased s).norm = s.norm ∧ (takeErased s).period = s.period ∧
    (takeErased s).plant = s.plant ∧ (takeErased s).clock = s.clock ∧ (takeErased s).share = s.share ∧
    (takeErased s).link = s.link ∧ (takeErased s).mirror = s.mirror ∧ (takeErased s).readout = s.readout ∧
    (takeErased s).ctrl = s.ctrl ∧ (takeErased s).freeCount = s.freeCount ∧ (takeErased s).pending = s.pending := by
  unfold takeErased
  simp

@[simp] theorem beginOpen_frame (a : Area) (s : State) :
    (beginOpen a s).intake = s.intake ∧ (beginOpen a s).norm = s.norm ∧ (beginOpen a s).period = s.period ∧
    (beginOpen a s).plant = s.plant ∧ (beginOpen a s).clock = s.clock ∧ (beginOpen a s).share = s.share ∧
    (beginOpen a s).link = s.link ∧ (beginOpen a s).mirror = s.mirror ∧ (beginOpen a s).readout = s.readout ∧
    (beginOpen a s).ctrl = s.ctrl ∧ (beginOpen a s).freeCount = s.freeCount ∧
    (beginOpen a s).pending = s.pending := by
  unfold beginOpen
  (repeat' split) <;> simp

@[simp] theorem beginTarget_frame (s : State) :
    (beginTarget s).intake = s.intake ∧ (beginTarget s).norm = s.norm ∧ (beginTarget s).period = s.period ∧
    (beginTarget s).plant = s.plant ∧ (beginTarget s).clock = s.clock ∧ (beginTarget s).share = s.share ∧
    (beginTarget s).link = s.link ∧ (beginTarget s).mirror = s.mirror ∧ (beginTarget s).readout = s.readout ∧
    (beginTarget s).ctrl = s.ctrl ∧ (beginTarget s).freeCount = s.freeCount ∧
    (beginTarget s).pending = s.pending := by
  unfold beginTarget
  (repeat' split) <;> simp

@[simp] theorem beginRelocation_frame (a : Area) (b recordSlot : Nat) (s : State) :
    (beginRelocation a b recordSlot s).intake = s.intake ∧ (beginRelocation a b recordSlot s).norm = s.norm ∧
    (beginRelocation a b recordSlot s).period = s.period ∧ (beginRelocation a b recordSlot s).plant = s.plant ∧
    (beginRelocation a b recordSlot s).clock = s.clock ∧ (beginRelocation a b recordSlot s).share = s.share ∧
    (beginRelocation a b recordSlot s).link = s.link ∧ (beginRelocation a b recordSlot s).mirror = s.mirror ∧
    (beginRelocation a b recordSlot s).readout = s.readout ∧ (beginRelocation a b recordSlot s).ctrl = s.ctrl ∧
    (beginRelocation a b recordSlot s).freeCount = s.freeCount ∧
    (beginRelocation a b recordSlot s).pending = s.pending := by
  unfold beginRelocation
  simp

@[simp] theorem abandonMirrorRelocation_frame (r : Relocation) (s : State) :
    (abandonMirrorRelocation r s).intake = s.intake ∧ (abandonMirrorRelocation r s).norm = s.norm ∧
    (abandonMirrorRelocation r s).period = s.period ∧ (abandonMirrorRelocation r s).plant = s.plant ∧
    (abandonMirrorRelocation r s).clock = s.clock ∧ (abandonMirrorRelocation r s).share = s.share ∧
    (abandonMirrorRelocation r s).link = s.link ∧ (abandonMirrorRelocation r s).readout = s.readout ∧
    (abandonMirrorRelocation r s).ctrl = s.ctrl ∧ (abandonMirrorRelocation r s).freeCount = s.freeCount ∧
    (abandonMirrorRelocation r s).pending = s.pending := by
  unfold abandonMirrorRelocation
  (repeat' split) <;> simp

@[simp] theorem takeWork_frame (w : Work) (s : State) :
    (takeWork w s).intake = s.intake ∧ (takeWork w s).norm = s.norm ∧ (takeWork w s).period = s.period ∧
    (takeWork w s).plant = s.plant ∧ (takeWork w s).clock = s.clock ∧ (takeWork w s).share = s.share ∧
    (takeWork w s).link = s.link ∧ (takeWork w s).readout = s.readout ∧ (takeWork w s).ctrl = s.ctrl ∧
    (takeWork w s).freeCount = s.freeCount ∧ (takeWork w s).pending = s.pending := by
  unfold takeWork
  (repeat' split) <;> simp

@[simp] theorem ownRecordPass_frame (r : SlotImage) (b slot : Nat) (s : State) :
    (ownRecordPass r b slot s).intake = s.intake ∧ (ownRecordPass r b slot s).norm = s.norm ∧
    (ownRecordPass r b slot s).period = s.period ∧ (ownRecordPass r b slot s).clock = s.clock ∧
    (ownRecordPass r b slot s).share = s.share ∧ (ownRecordPass r b slot s).mirror = s.mirror ∧
    (ownRecordPass r b slot s).readout = s.readout ∧ (ownRecordPass r b slot s).ctrl = s.ctrl ∧
    (ownRecordPass r b slot s).freeCount = s.freeCount ∧ (ownRecordPass r b slot s).pending = s.pending := by
  unfold ownRecordPass
  (repeat' split) <;> simp

@[simp] theorem mirrorRecordPass_frame (r : SlotImage) (b slot : Nat) (s : State) :
    (mirrorRecordPass r b slot s).intake = s.intake ∧ (mirrorRecordPass r b slot s).norm = s.norm ∧
    (mirrorRecordPass r b slot s).period = s.period ∧ (mirrorRecordPass r b slot s).plant = s.plant ∧
    (mirrorRecordPass r b slot s).clock = s.clock ∧ (mirrorRecordPass r b slot s).share = s.share ∧
    (mirrorRecordPass r b slot s).link = s.link ∧ (mirrorRecordPass r b slot s).readout = s.readout ∧
    (mirrorRecordPass r b slot s).ctrl = s.ctrl ∧ (mirrorRecordPass r b slot s).freeCount = s.freeCount ∧
    (mirrorRecordPass r b slot s).pending = s.pending := by
  unfold mirrorRecordPass
  simp

@[simp] theorem recordPass_frame (a : Area) (r : SlotImage) (b slot : Nat) (s : State) :
    (recordPass a r b slot s).intake = s.intake ∧ (recordPass a r b slot s).norm = s.norm ∧
    (recordPass a r b slot s).period = s.period ∧ (recordPass a r b slot s).clock = s.clock ∧
    (recordPass a r b slot s).share = s.share ∧ (recordPass a r b slot s).readout = s.readout ∧
    (recordPass a r b slot s).ctrl = s.ctrl ∧ (recordPass a r b slot s).freeCount = s.freeCount ∧
    (recordPass a r b slot s).pending = s.pending := by
  unfold recordPass
  (repeat' split) <;> simp

@[simp] theorem fillCheck_frame (a : Area) (b : Nat) (s : State) :
    (fillCheck a b s).intake = s.intake ∧ (fillCheck a b s).norm = s.norm ∧ (fillCheck a b s).period = s.period ∧
    (fillCheck a b s).plant = s.plant ∧ (fillCheck a b s).clock = s.clock ∧ (fillCheck a b s).share = s.share ∧
    (fillCheck a b s).link = s.link ∧ (fillCheck a b s).mirror = s.mirror ∧ (fillCheck a b s).readout = s.readout ∧
    (fillCheck a b s).ctrl = s.ctrl ∧ (fillCheck a b s).freeCount = s.freeCount ∧
    (fillCheck a b s).pending = s.pending := by
  unfold fillCheck
  simp

@[simp] theorem retireToCleanup_frame (b : Nat) (s : State) :
    (retireToCleanup b s).intake = s.intake ∧ (retireToCleanup b s).norm = s.norm ∧
    (retireToCleanup b s).period = s.period ∧ (retireToCleanup b s).plant = s.plant ∧
    (retireToCleanup b s).clock = s.clock ∧ (retireToCleanup b s).share = s.share ∧
    (retireToCleanup b s).link = s.link ∧ (retireToCleanup b s).mirror = s.mirror ∧
    (retireToCleanup b s).readout = s.readout ∧ (retireToCleanup b s).ctrl = s.ctrl ∧
    (retireToCleanup b s).freeCount = s.freeCount ∧ (retireToCleanup b s).pending = s.pending := by
  unfold retireToCleanup
  simp

@[simp] theorem giveUpWaitingRelocation_frame (s : State) :
    (giveUpWaitingRelocation s).intake = s.intake ∧ (giveUpWaitingRelocation s).norm = s.norm ∧
    (giveUpWaitingRelocation s).period = s.period ∧ (giveUpWaitingRelocation s).plant = s.plant ∧
    (giveUpWaitingRelocation s).clock = s.clock ∧ (giveUpWaitingRelocation s).share = s.share ∧
    (giveUpWaitingRelocation s).link = s.link ∧ (giveUpWaitingRelocation s).mirror = s.mirror ∧
    (giveUpWaitingRelocation s).readout = s.readout ∧ (giveUpWaitingRelocation s).ctrl = s.ctrl ∧
    (giveUpWaitingRelocation s).freeCount = s.freeCount ∧ (giveUpWaitingRelocation s).pending = s.pending := by
  unfold giveUpWaitingRelocation
  dsimp only
  (repeat' split) <;> simp

/-- No relocation waits in phase RECORD: nothing is given up (R142). -/
theorem giveUpWaitingRelocation_self (s : State)
    (h : ∀ r, s.store.relocation = some r → r.phase ≠ .record) : giveUpWaitingRelocation s = s := by
  unfold giveUpWaitingRelocation
  split
  · rename_i r hr
    rw [if_neg (h r hr)]
  · rfl

/-- A relocation that waits in phase RECORD with its target is given up: its source is FULL, its target joins the cleanup list,
and the context is absent (log entry 53). -/
theorem giveUpWaitingRelocation_waiting (s : State) (r : Relocation) (target : Nat) (hr : s.store.relocation = some r)
    (hp : r.phase = .record) (ht : r.target = some target) :
    giveUpWaitingRelocation s = setRelocation none
      (retireToCleanup target (setBlock r.source (fun e => { e with state := r.area.fullState }) s)) := by
  simp [giveUpWaitingRelocation, setRelocation, hr, hp, ht]

@[simp] theorem headComplete_frame (a : Area) (b slot : Nat) (pass : Bool) (s : State) :
    (headComplete a b slot pass s).intake = s.intake ∧ (headComplete a b slot pass s).norm = s.norm ∧
    (headComplete a b slot pass s).period = s.period ∧ (headComplete a b slot pass s).clock = s.clock ∧
    (headComplete a b slot pass s).share = s.share ∧ (headComplete a b slot pass s).readout = s.readout ∧
    (headComplete a b slot pass s).ctrl = s.ctrl ∧ (headComplete a b slot pass s).freeCount = s.freeCount ∧
    (headComplete a b slot pass s).pending = s.pending := by
  unfold headComplete
  dsimp only
  (repeat' split) <;> simp

@[simp] theorem openHeaderComplete_frame (a : Area) (b sequence : Nat) (pass : Bool) (s : State) :
    (openHeaderComplete a b sequence pass s).intake = s.intake ∧
    (openHeaderComplete a b sequence pass s).norm = s.norm ∧
    (openHeaderComplete a b sequence pass s).period = s.period ∧
    (openHeaderComplete a b sequence pass s).plant = s.plant ∧
    (openHeaderComplete a b sequence pass s).clock = s.clock ∧
    (openHeaderComplete a b sequence pass s).share = s.share ∧
    (openHeaderComplete a b sequence pass s).link = s.link ∧
    (openHeaderComplete a b sequence pass s).mirror = s.mirror ∧
    (openHeaderComplete a b sequence pass s).readout = s.readout ∧
    (openHeaderComplete a b sequence pass s).ctrl = s.ctrl ∧
    (openHeaderComplete a b sequence pass s).freeCount = s.freeCount ∧
    (openHeaderComplete a b sequence pass s).pending = s.pending := by
  unfold openHeaderComplete
  (repeat' split) <;> simp

@[simp] theorem setRelocation_frame (r : Option Relocation) (s : State) :
    (setRelocation r s).intake = s.intake ∧ (setRelocation r s).norm = s.norm ∧
    (setRelocation r s).period = s.period ∧ (setRelocation r s).plant = s.plant ∧
    (setRelocation r s).clock = s.clock ∧ (setRelocation r s).share = s.share ∧ (setRelocation r s).link = s.link ∧
    (setRelocation r s).mirror = s.mirror ∧ (setRelocation r s).readout = s.readout ∧
    (setRelocation r s).ctrl = s.ctrl ∧ (setRelocation r s).freeCount = s.freeCount ∧
    (setRelocation r s).pending = s.pending := by
  unfold setRelocation
  simp

@[simp] theorem abandonTarget_frame (r : Relocation) (b : Nat) (s : State) :
    (abandonTarget r b s).intake = s.intake ∧ (abandonTarget r b s).norm = s.norm ∧
    (abandonTarget r b s).period = s.period ∧ (abandonTarget r b s).plant = s.plant ∧
    (abandonTarget r b s).clock = s.clock ∧ (abandonTarget r b s).share = s.share ∧
    (abandonTarget r b s).link = s.link ∧ (abandonTarget r b s).mirror = s.mirror ∧
    (abandonTarget r b s).readout = s.readout ∧ (abandonTarget r b s).ctrl = s.ctrl ∧
    (abandonTarget r b s).freeCount = s.freeCount ∧ (abandonTarget r b s).pending = s.pending := by
  unfold abandonTarget
  simp

@[simp] theorem targetHeaderComplete_frame (b sequence : Nat) (pass : Bool) (s : State) :
    (targetHeaderComplete b sequence pass s).intake = s.intake ∧
    (targetHeaderComplete b sequence pass s).norm = s.norm ∧
    (targetHeaderComplete b sequence pass s).period = s.period ∧
    (targetHeaderComplete b sequence pass s).plant = s.plant ∧
    (targetHeaderComplete b sequence pass s).clock = s.clock ∧
    (targetHeaderComplete b sequence pass s).share = s.share ∧
    (targetHeaderComplete b sequence pass s).link = s.link ∧
    (targetHeaderComplete b sequence pass s).mirror = s.mirror ∧
    (targetHeaderComplete b sequence pass s).readout = s.readout ∧
    (targetHeaderComplete b sequence pass s).ctrl = s.ctrl ∧
    (targetHeaderComplete b sequence pass s).freeCount = s.freeCount ∧
    (targetHeaderComplete b sequence pass s).pending = s.pending := by
  unfold targetHeaderComplete
  (repeat' split) <;> simp

@[simp] theorem copyComplete_frame (source target slot : Nat) (pass : Bool) (s : State) :
    (copyComplete source target slot pass s).intake = s.intake ∧
    (copyComplete source target slot pass s).norm = s.norm ∧
    (copyComplete source target slot pass s).period = s.period ∧
    (copyComplete source target slot pass s).plant = s.plant ∧
    (copyComplete source target slot pass s).clock = s.clock ∧
    (copyComplete source target slot pass s).share = s.share ∧
    (copyComplete source target slot pass s).link = s.link ∧
    (copyComplete source target slot pass s).mirror = s.mirror ∧
    (copyComplete source target slot pass s).readout = s.readout ∧
    (copyComplete source target slot pass s).ctrl = s.ctrl ∧
    (copyComplete source target slot pass s).freeCount = s.freeCount ∧
    (copyComplete source target slot pass s).pending = s.pending := by
  unfold copyComplete
  (repeat' split) <;> simp

@[simp] theorem recordComplete_frame (b slot : Nat) (pass : Bool) (s : State) :
    (recordComplete b slot pass s).intake = s.intake ∧ (recordComplete b slot pass s).norm = s.norm ∧
    (recordComplete b slot pass s).period = s.period ∧ (recordComplete b slot pass s).clock = s.clock ∧
    (recordComplete b slot pass s).share = s.share ∧ (recordComplete b slot pass s).readout = s.readout ∧
    (recordComplete b slot pass s).ctrl = s.ctrl ∧ (recordComplete b slot pass s).freeCount = s.freeCount ∧
    (recordComplete b slot pass s).pending = s.pending := by
  unfold recordComplete
  (repeat' split) <;> simp

@[simp] theorem copyEndComplete_frame (b slot : Nat) (pass : Bool) (s : State) :
    (copyEndComplete b slot pass s).intake = s.intake ∧ (copyEndComplete b slot pass s).norm = s.norm ∧
    (copyEndComplete b slot pass s).period = s.period ∧ (copyEndComplete b slot pass s).plant = s.plant ∧
    (copyEndComplete b slot pass s).clock = s.clock ∧ (copyEndComplete b slot pass s).share = s.share ∧
    (copyEndComplete b slot pass s).link = s.link ∧ (copyEndComplete b slot pass s).mirror = s.mirror ∧
    (copyEndComplete b slot pass s).readout = s.readout ∧ (copyEndComplete b slot pass s).ctrl = s.ctrl ∧
    (copyEndComplete b slot pass s).freeCount = s.freeCount ∧
    (copyEndComplete b slot pass s).pending = s.pending := by
  unfold copyEndComplete
  (repeat' split) <;> simp

@[simp] theorem finishCleanup_frame (s : State) :
    (finishCleanup s).intake = s.intake ∧ (finishCleanup s).norm = s.norm ∧ (finishCleanup s).period = s.period ∧
    (finishCleanup s).plant = s.plant ∧ (finishCleanup s).clock = s.clock ∧ (finishCleanup s).share = s.share ∧
    (finishCleanup s).link = s.link ∧ (finishCleanup s).mirror = s.mirror ∧ (finishCleanup s).readout = s.readout ∧
    (finishCleanup s).ctrl = s.ctrl ∧ (finishCleanup s).freeCount = s.freeCount ∧
    (finishCleanup s).pending = s.pending := by
  unfold finishCleanup
  dsimp only
  (repeat' split) <;> simp

@[simp] theorem retiredHeaderComplete_frame (b sequence : Nat) (pass : Bool) (s : State) :
    (retiredHeaderComplete b sequence pass s).intake = s.intake ∧
    (retiredHeaderComplete b sequence pass s).norm = s.norm ∧
    (retiredHeaderComplete b sequence pass s).period = s.period ∧
    (retiredHeaderComplete b sequence pass s).plant = s.plant ∧
    (retiredHeaderComplete b sequence pass s).clock = s.clock ∧
    (retiredHeaderComplete b sequence pass s).share = s.share ∧
    (retiredHeaderComplete b sequence pass s).link = s.link ∧
    (retiredHeaderComplete b sequence pass s).mirror = s.mirror ∧
    (retiredHeaderComplete b sequence pass s).readout = s.readout ∧
    (retiredHeaderComplete b sequence pass s).ctrl = s.ctrl ∧
    (retiredHeaderComplete b sequence pass s).freeCount = s.freeCount ∧
    (retiredHeaderComplete b sequence pass s).pending = s.pending := by
  unfold retiredHeaderComplete
  (repeat' split) <;> simp

@[simp] theorem fullErased_frame (b : Nat) (purpose : ErasePurpose) (s : State) :
    (fullErased b purpose s).intake = s.intake ∧ (fullErased b purpose s).norm = s.norm ∧
    (fullErased b purpose s).period = s.period ∧ (fullErased b purpose s).clock = s.clock ∧
    (fullErased b purpose s).share = s.share ∧ (fullErased b purpose s).link = s.link ∧
    (fullErased b purpose s).mirror = s.mirror ∧ (fullErased b purpose s).readout = s.readout ∧
    (fullErased b purpose s).ctrl = s.ctrl ∧ (fullErased b purpose s).freeCount = s.freeCount ∧
    (fullErased b purpose s).pending = s.pending := by
  unfold fullErased
  (repeat' split) <;> simp

@[simp] theorem poolEraseComplete_frame (b : Nat) (purpose : ErasePurpose) (pass : Bool) (s : State) :
    (poolEraseComplete b purpose pass s).intake = s.intake ∧ (poolEraseComplete b purpose pass s).norm = s.norm ∧
    (poolEraseComplete b purpose pass s).period = s.period ∧ (poolEraseComplete b purpose pass s).clock = s.clock ∧
    (poolEraseComplete b purpose pass s).share = s.share ∧ (poolEraseComplete b purpose pass s).link = s.link ∧
    (poolEraseComplete b purpose pass s).mirror = s.mirror ∧
    (poolEraseComplete b purpose pass s).readout = s.readout ∧ (poolEraseComplete b purpose pass s).ctrl = s.ctrl ∧
    (poolEraseComplete b purpose pass s).pending = s.pending := by
  unfold poolEraseComplete
  (repeat' split) <;> simp

/-- The order of work begins operations and settles areas, all within the store and the gap counts. -/
@[simp] theorem examineWork_frame (fuel : Nat) (s : State) :
    (examineWork fuel s).intake = s.intake ∧
    (examineWork fuel s).norm = s.norm ∧
    (examineWork fuel s).period = s.period ∧
    (examineWork fuel s).plant = s.plant ∧
    (examineWork fuel s).clock = s.clock ∧
    (examineWork fuel s).share = s.share ∧
    (examineWork fuel s).link = s.link ∧
    (examineWork fuel s).readout = s.readout ∧
    (examineWork fuel s).ctrl = s.ctrl ∧
    (examineWork fuel s).freeCount = s.freeCount ∧
    (examineWork fuel s).pending = s.pending := by
  induction fuel generalizing s with
  | zero => simp [examineWork]
  | succ n ih =>
    unfold examineWork
    split
    · simp
    · dsimp only
      split <;> simp [ih]

end Sys2Proof.Laws
end

