-- ==== Sys2Proof/Laws/FramesRest.lean ====
section
/-! SUPPORT. What the operations of the clock, the link, mirroring, the controller, the scan and the readout leave alone. -/

namespace Sys2Proof.Laws

open Sys2Proof.Machine

@[simp] theorem closeMeasurement_frame (m : MinuteId) (s : State) :
    (closeMeasurement m s).plant = s.plant ∧ (closeMeasurement m s).clock = s.clock ∧
    (closeMeasurement m s).store = s.store ∧ (closeMeasurement m s).mirror = s.mirror ∧
    (closeMeasurement m s).readout = s.readout ∧ (closeMeasurement m s).ctrl = s.ctrl ∧
    (closeMeasurement m s).freeCount = s.freeCount ∧ (closeMeasurement m s).pending = s.pending := by
  unfold closeMeasurement
  (repeat' split) <;> simp

@[simp] theorem closeInterval_frame (early : Bool) (closing next : Id) (s : State) :
    (closeInterval early closing next s).intake = s.intake ∧ (closeInterval early closing next s).norm = s.norm ∧
    (closeInterval early closing next s).clock = s.clock ∧ (closeInterval early closing next s).share = s.share ∧
    (closeInterval early closing next s).mirror = s.mirror ∧
    (closeInterval early closing next s).readout = s.readout ∧ (closeInterval early closing next s).ctrl = s.ctrl ∧
    (closeInterval early closing next s).freeCount = s.freeCount ∧
    (closeInterval early closing next s).pending = s.pending := by
  unfold closeInterval
  dsimp only
  (repeat' split) <;> simp

@[simp] theorem offerAdjust_frame (staged : Option StagedAdjustment) (s : State) :
    (offerAdjust staged s).intake = s.intake ∧ (offerAdjust staged s).norm = s.norm ∧
    (offerAdjust staged s).period = s.period ∧ (offerAdjust staged s).clock = s.clock ∧
    (offerAdjust staged s).share = s.share ∧ (offerAdjust staged s).link = s.link ∧
    (offerAdjust staged s).mirror = s.mirror ∧ (offerAdjust staged s).readout = s.readout ∧
    (offerAdjust staged s).ctrl = s.ctrl ∧ (offerAdjust staged s).freeCount = s.freeCount ∧
    (offerAdjust staged s).pending = s.pending := by
  unfold offerAdjust
  (repeat' split) <;> simp

@[simp] theorem storeDayClose_frame (year : Nat) (s : State) :
    (storeDayClose year s).intake = s.intake ∧ (storeDayClose year s).norm = s.norm ∧
    (storeDayClose year s).period = s.period ∧ (storeDayClose year s).plant = s.plant ∧
    (storeDayClose year s).clock = s.clock ∧ (storeDayClose year s).share = s.share ∧
    (storeDayClose year s).link = s.link ∧ (storeDayClose year s).mirror = s.mirror ∧
    (storeDayClose year s).readout = s.readout ∧ (storeDayClose year s).ctrl = s.ctrl ∧
    (storeDayClose year s).freeCount = s.freeCount ∧ (storeDayClose year s).pending = s.pending := by
  unfold storeDayClose
  simp

@[simp] theorem closeMinute_frame (early : Bool) (s : State) :
    (closeMinute early s).mirror = s.mirror ∧ (closeMinute early s).readout = s.readout ∧
    (closeMinute early s).ctrl = s.ctrl ∧ (closeMinute early s).freeCount = s.freeCount ∧
    (closeMinute early s).pending = s.pending := by
  unfold closeMinute
  (repeat' split) <;> simp

@[simp] theorem minuteEnds_frame (s : State) :
    (minuteEnds s).mirror = s.mirror ∧ (minuteEnds s).readout = s.readout ∧ (minuteEnds s).ctrl = s.ctrl ∧
    (minuteEnds s).freeCount = s.freeCount ∧ (minuteEnds s).pending = s.pending := by
  unfold minuteEnds
  (repeat' split) <;> simp

@[simp] theorem setTime_frame (t : StationTime) (last : Option LastClosed) (s : State) :
    (setTime t last s).norm = s.norm ∧ (setTime t last s).link = s.link ∧ (setTime t last s).mirror = s.mirror ∧
    (setTime t last s).readout = s.readout ∧ (setTime t last s).ctrl = s.ctrl ∧
    (setTime t last s).freeCount = s.freeCount ∧ (setTime t last s).pending = s.pending := by
  unfold setTime
  simp

@[simp] theorem acquireTime_frame (t : StationTime) (last : Option LastClosed) (s : State) :
    (acquireTime t last s).norm = s.norm ∧ (acquireTime t last s).link = s.link ∧
    (acquireTime t last s).mirror = s.mirror ∧ (acquireTime t last s).readout = s.readout ∧
    (acquireTime t last s).freeCount = s.freeCount ∧ (acquireTime t last s).pending = s.pending := by
  unfold acquireTime
  simp

@[simp] theorem countDisagreement_frame (s : State) :
    (countDisagreement s).intake = s.intake ∧ (countDisagreement s).norm = s.norm ∧
    (countDisagreement s).period = s.period ∧ (countDisagreement s).plant = s.plant ∧
    (countDisagreement s).share = s.share ∧ (countDisagreement s).link = s.link ∧
    (countDisagreement s).store = s.store ∧ (countDisagreement s).mirror = s.mirror ∧
    (countDisagreement s).readout = s.readout ∧ (countDisagreement s).ctrl = s.ctrl ∧
    (countDisagreement s).freeCount = s.freeCount ∧ (countDisagreement s).pending = s.pending := by
  unfold countDisagreement
  simp

@[simp] theorem decideMark_frame (i : Id) (s : State) :
    (decideMark i s).mirror = s.mirror ∧ (decideMark i s).readout = s.readout ∧ (decideMark i s).ctrl = s.ctrl ∧
    (decideMark i s).freeCount = s.freeCount ∧ (decideMark i s).pending = s.pending := by
  unfold decideMark
  (repeat' split) <;> simp

@[simp] theorem takeMark_frame (i : Id) (s : State) :
    (takeMark i s).mirror = s.mirror ∧ (takeMark i s).readout = s.readout ∧ (takeMark i s).freeCount = s.freeCount ∧
    (takeMark i s).pending = s.pending := by
  unfold takeMark
  (repeat' split) <;> simp

@[simp] theorem stageTime_frame (terminal : Nat) (target : StationTime) (s : State) :
    (stageTime terminal target s).intake = s.intake ∧ (stageTime terminal target s).norm = s.norm ∧
    (stageTime terminal target s).period = s.period ∧ (stageTime terminal target s).plant = s.plant ∧
    (stageTime terminal target s).share = s.share ∧ (stageTime terminal target s).link = s.link ∧
    (stageTime terminal target s).store = s.store ∧ (stageTime terminal target s).mirror = s.mirror ∧
    (stageTime terminal target s).readout = s.readout ∧ (stageTime terminal target s).ctrl = s.ctrl ∧
    (stageTime terminal target s).freeCount = s.freeCount ∧ (stageTime terminal target s).pending = s.pending := by
  unfold stageTime
  (repeat' split) <;> simp

@[simp] theorem takeTime_frame (terminal : Nat) (f : TimeFields) (s : State) :
    (takeTime terminal f s).1.norm = s.norm ∧ (takeTime terminal f s).1.link = s.link ∧
    (takeTime terminal f s).1.mirror = s.mirror ∧ (takeTime terminal f s).1.readout = s.readout ∧
    (takeTime terminal f s).1.freeCount = s.freeCount ∧ (takeTime terminal f s).1.pending = s.pending := by
  unfold takeTime
  (repeat' split) <;> simp

@[simp] theorem setReceiver_frame (r : Receiver) (s : State) :
    (setReceiver r s).intake = s.intake ∧ (setReceiver r s).norm = s.norm ∧ (setReceiver r s).period = s.period ∧
    (setReceiver r s).plant = s.plant ∧ (setReceiver r s).clock = s.clock ∧ (setReceiver r s).share = s.share ∧
    (setReceiver r s).store = s.store ∧ (setReceiver r s).mirror = s.mirror ∧ (setReceiver r s).readout = s.readout ∧
    (setReceiver r s).ctrl = s.ctrl ∧ (setReceiver r s).freeCount = s.freeCount ∧
    (setReceiver r s).pending = s.pending := by
  unfold setReceiver
  simp

@[simp] theorem countReceiveError_frame (s : State) :
    (countReceiveError s).intake = s.intake ∧ (countReceiveError s).norm = s.norm ∧
    (countReceiveError s).period = s.period ∧ (countReceiveError s).plant = s.plant ∧
    (countReceiveError s).clock = s.clock ∧ (countReceiveError s).share = s.share ∧
    (countReceiveError s).store = s.store ∧ (countReceiveError s).mirror = s.mirror ∧
    (countReceiveError s).readout = s.readout ∧ (countReceiveError s).ctrl = s.ctrl ∧
    (countReceiveError s).freeCount = s.freeCount ∧ (countReceiveError s).pending = s.pending := by
  unfold countReceiveError
  simp

@[simp] theorem countClash_frame (s : State) :
    (countClash s).intake = s.intake ∧ (countClash s).norm = s.norm ∧ (countClash s).period = s.period ∧
    (countClash s).plant = s.plant ∧ (countClash s).clock = s.clock ∧ (countClash s).share = s.share ∧
    (countClash s).store = s.store ∧ (countClash s).mirror = s.mirror ∧ (countClash s).readout = s.readout ∧
    (countClash s).ctrl = s.ctrl ∧ (countClash s).freeCount = s.freeCount ∧ (countClash s).pending = s.pending := by
  unfold countClash
  simp

@[simp] theorem breakFrame_frame (s : State) :
    (breakFrame s).intake = s.intake ∧ (breakFrame s).norm = s.norm ∧ (breakFrame s).period = s.period ∧
    (breakFrame s).plant = s.plant ∧ (breakFrame s).clock = s.clock ∧ (breakFrame s).share = s.share ∧
    (breakFrame s).store = s.store ∧ (breakFrame s).mirror = s.mirror ∧ (breakFrame s).readout = s.readout ∧
    (breakFrame s).ctrl = s.ctrl ∧ (breakFrame s).freeCount = s.freeCount ∧ (breakFrame s).pending = s.pending := by
  unfold breakFrame
  (repeat' split) <;> simp

@[simp] theorem lineFallsIdle_frame (s : State) :
    (lineFallsIdle s).intake = s.intake ∧ (lineFallsIdle s).norm = s.norm ∧ (lineFallsIdle s).period = s.period ∧
    (lineFallsIdle s).plant = s.plant ∧ (lineFallsIdle s).clock = s.clock ∧ (lineFallsIdle s).share = s.share ∧
    (lineFallsIdle s).store = s.store ∧ (lineFallsIdle s).mirror = s.mirror ∧ (lineFallsIdle s).readout = s.readout ∧
    (lineFallsIdle s).ctrl = s.ctrl ∧ (lineFallsIdle s).freeCount = s.freeCount ∧
    (lineFallsIdle s).pending = s.pending := by
  unfold lineFallsIdle
  (repeat' split) <;> simp

@[simp] theorem beginAttempt_frame (s : State) :
    (beginAttempt s).intake = s.intake ∧ (beginAttempt s).norm = s.norm ∧ (beginAttempt s).period = s.period ∧
    (beginAttempt s).plant = s.plant ∧ (beginAttempt s).clock = s.clock ∧ (beginAttempt s).share = s.share ∧
    (beginAttempt s).store = s.store ∧ (beginAttempt s).mirror = s.mirror ∧ (beginAttempt s).readout = s.readout ∧
    (beginAttempt s).ctrl = s.ctrl ∧ (beginAttempt s).freeCount = s.freeCount ∧
    (beginAttempt s).pending = s.pending := by
  unfold beginAttempt
  (repeat' split) <;> simp

@[simp] theorem loseArbitration_frame (s : State) :
    (loseArbitration s).intake = s.intake ∧ (loseArbitration s).norm = s.norm ∧
    (loseArbitration s).period = s.period ∧ (loseArbitration s).plant = s.plant ∧
    (loseArbitration s).clock = s.clock ∧ (loseArbitration s).share = s.share ∧ (loseArbitration s).store = s.store ∧
    (loseArbitration s).mirror = s.mirror ∧ (loseArbitration s).readout = s.readout ∧
    (loseArbitration s).ctrl = s.ctrl ∧ (loseArbitration s).freeCount = s.freeCount ∧
    (loseArbitration s).pending = s.pending := by
  unfold loseArbitration
  (repeat' split) <;> simp

@[simp] theorem failAttempt_frame (s : State) :
    (failAttempt s).intake = s.intake ∧ (failAttempt s).norm = s.norm ∧ (failAttempt s).period = s.period ∧
    (failAttempt s).plant = s.plant ∧ (failAttempt s).clock = s.clock ∧ (failAttempt s).share = s.share ∧
    (failAttempt s).store = s.store ∧ (failAttempt s).mirror = s.mirror ∧ (failAttempt s).readout = s.readout ∧
    (failAttempt s).ctrl = s.ctrl ∧ (failAttempt s).freeCount = s.freeCount ∧
    (failAttempt s).pending = s.pending := by
  unfold failAttempt
  (repeat' split) <;> simp

@[simp] theorem completeAttempt_frame (s : State) :
    (completeAttempt s).intake = s.intake ∧ (completeAttempt s).norm = s.norm ∧
    (completeAttempt s).period = s.period ∧ (completeAttempt s).plant = s.plant ∧
    (completeAttempt s).clock = s.clock ∧ (completeAttempt s).share = s.share ∧ (completeAttempt s).store = s.store ∧
    (completeAttempt s).mirror = s.mirror ∧ (completeAttempt s).readout = s.readout ∧
    (completeAttempt s).ctrl = s.ctrl ∧ (completeAttempt s).freeCount = s.freeCount ∧
    (completeAttempt s).pending = s.pending := by
  unfold completeAttempt
  (repeat' split) <;> simp

@[simp] theorem expireEntry_frame (s : State) :
    (expireEntry s).intake = s.intake ∧ (expireEntry s).norm = s.norm ∧ (expireEntry s).period = s.period ∧
    (expireEntry s).store = s.store ∧ (expireEntry s).mirror = s.mirror ∧ (expireEntry s).readout = s.readout ∧
    (expireEntry s).ctrl = s.ctrl ∧ (expireEntry s).freeCount = s.freeCount ∧
    (expireEntry s).pending = s.pending := by
  unfold expireEntry
  (repeat' split) <;> simp

@[simp] theorem offerMirror_frame (r : SlotImage) (s : State) :
    (offerMirror r s).intake = s.intake ∧ (offerMirror r s).norm = s.norm ∧ (offerMirror r s).period = s.period ∧
    (offerMirror r s).plant = s.plant ∧ (offerMirror r s).clock = s.clock ∧ (offerMirror r s).share = s.share ∧
    (offerMirror r s).link = s.link ∧ (offerMirror r s).readout = s.readout ∧ (offerMirror r s).ctrl = s.ctrl ∧
    (offerMirror r s).freeCount = s.freeCount ∧ (offerMirror r s).pending = s.pending := by
  unfold offerMirror
  (repeat' split) <;> simp

@[simp] theorem takeResult_frame (sender : Nat) (r : SlotImage) (s : State) :
    (takeResult sender r s).intake = s.intake ∧ (takeResult sender r s).norm = s.norm ∧
    (takeResult sender r s).period = s.period ∧ (takeResult sender r s).plant = s.plant ∧
    (takeResult sender r s).clock = s.clock ∧ (takeResult sender r s).share = s.share ∧
    (takeResult sender r s).link = s.link ∧ (takeResult sender r s).readout = s.readout ∧
    (takeResult sender r s).ctrl = s.ctrl ∧ (takeResult sender r s).freeCount = s.freeCount ∧
    (takeResult sender r s).pending = s.pending := by
  unfold takeResult
  dsimp only
  (repeat' split) <;> simp

@[simp] theorem comeIntoForce_frame (f : InForce) (s : State) :
    (comeIntoForce f s).intake = s.intake ∧ (comeIntoForce f s).period = s.period ∧
    (comeIntoForce f s).plant = s.plant ∧ (comeIntoForce f s).clock = s.clock ∧ (comeIntoForce f s).link = s.link ∧
    (comeIntoForce f s).mirror = s.mirror ∧ (comeIntoForce f s).freeCount = s.freeCount ∧
    (comeIntoForce f s).pending = s.pending := by
  unfold comeIntoForce
  simp

@[simp] theorem takeConfigure_frame (part : ConfigurePart) (s : State) :
    (takeConfigure part s).1.intake = s.intake ∧ (takeConfigure part s).1.norm = s.norm ∧
    (takeConfigure part s).1.period = s.period ∧ (takeConfigure part s).1.plant = s.plant ∧
    (takeConfigure part s).1.clock = s.clock ∧ (takeConfigure part s).1.share = s.share ∧
    (takeConfigure part s).1.link = s.link ∧ (takeConfigure part s).1.store = s.store ∧
    (takeConfigure part s).1.mirror = s.mirror ∧ (takeConfigure part s).1.readout = s.readout ∧
    (takeConfigure part s).1.freeCount = s.freeCount ∧ (takeConfigure part s).1.pending = s.pending := by
  unfold takeConfigure
  (repeat' split) <;> simp

@[simp] theorem setDeferred_frame (terminal : Nat) (d : Option Nat) (s : State) :
    (setDeferred terminal d s).intake = s.intake ∧ (setDeferred terminal d s).norm = s.norm ∧
    (setDeferred terminal d s).period = s.period ∧ (setDeferred terminal d s).plant = s.plant ∧
    (setDeferred terminal d s).clock = s.clock ∧ (setDeferred terminal d s).share = s.share ∧
    (setDeferred terminal d s).link = s.link ∧ (setDeferred terminal d s).store = s.store ∧
    (setDeferred terminal d s).mirror = s.mirror ∧ (setDeferred terminal d s).ctrl = s.ctrl ∧
    (setDeferred terminal d s).freeCount = s.freeCount ∧ (setDeferred terminal d s).pending = s.pending := by
  unfold setDeferred
  simp

@[simp] theorem beginStart_frame (terminal taken : Nat) (s : State) :
    (beginStart terminal taken s).intake = s.intake ∧ (beginStart terminal taken s).norm = s.norm ∧
    (beginStart terminal taken s).period = s.period ∧ (beginStart terminal taken s).plant = s.plant ∧
    (beginStart terminal taken s).clock = s.clock ∧ (beginStart terminal taken s).share = s.share ∧
    (beginStart terminal taken s).link = s.link ∧ (beginStart terminal taken s).mirror = s.mirror ∧
    (beginStart terminal taken s).freeCount = s.freeCount ∧ (beginStart terminal taken s).pending = s.pending := by
  unfold beginStart
  simp

@[simp] theorem takeStart_frame (terminal taken : Nat) (s : State) :
    (takeStart terminal taken s).1.intake = s.intake ∧ (takeStart terminal taken s).1.norm = s.norm ∧
    (takeStart terminal taken s).1.period = s.period ∧ (takeStart terminal taken s).1.plant = s.plant ∧
    (takeStart terminal taken s).1.clock = s.clock ∧ (takeStart terminal taken s).1.share = s.share ∧
    (takeStart terminal taken s).1.link = s.link ∧ (takeStart terminal taken s).1.mirror = s.mirror ∧
    (takeStart terminal taken s).1.freeCount = s.freeCount ∧ (takeStart terminal taken s).1.pending = s.pending := by
  unfold takeStart
  (repeat' split) <;> simp

@[simp] theorem answerStart_frame (code : AnswerCode) (s : State) :
    (answerStart code s).intake = s.intake ∧ (answerStart code s).norm = s.norm ∧
    (answerStart code s).period = s.period ∧ (answerStart code s).plant = s.plant ∧
    (answerStart code s).clock = s.clock ∧ (answerStart code s).share = s.share ∧
    (answerStart code s).store = s.store ∧ (answerStart code s).mirror = s.mirror ∧
    (answerStart code s).freeCount = s.freeCount ∧ (answerStart code s).pending = s.pending := by
  unfold answerStart
  dsimp only
  (repeat' split) <;> simp

@[simp] theorem enterFromSetup_frame (f : InForce) (terminal : Nat) (s : State) :
    (enterFromSetup f terminal s).intake = s.intake ∧ (enterFromSetup f terminal s).norm = s.norm ∧
    (enterFromSetup f terminal s).clock = s.clock ∧ (enterFromSetup f terminal s).share = s.share ∧
    (enterFromSetup f terminal s).link = s.link ∧ (enterFromSetup f terminal s).mirror = s.mirror ∧
    (enterFromSetup f terminal s).readout = s.readout ∧ (enterFromSetup f terminal s).freeCount = s.freeCount ∧
    (enterFromSetup f terminal s).pending = s.pending := by
  unfold enterFromSetup
  (repeat' split) <;> simp

@[simp] theorem carryOutStart_frame (w : ConfigWrite) (s : State) :
    (carryOutStart w s).intake = s.intake ∧ (carryOutStart w s).clock = s.clock ∧
    (carryOutStart w s).mirror = s.mirror ∧ (carryOutStart w s).freeCount = s.freeCount ∧
    (carryOutStart w s).pending = s.pending := by
  unfold carryOutStart
  (repeat' split) <;> simp

@[simp] theorem refuseStart_frame (s : State) :
    (refuseStart s).intake = s.intake ∧ (refuseStart s).norm = s.norm ∧ (refuseStart s).period = s.period ∧
    (refuseStart s).plant = s.plant ∧ (refuseStart s).clock = s.clock ∧ (refuseStart s).share = s.share ∧
    (refuseStart s).store = s.store ∧ (refuseStart s).mirror = s.mirror ∧ (refuseStart s).freeCount = s.freeCount ∧
    (refuseStart s).pending = s.pending := by
  unfold refuseStart
  simp

@[simp] theorem configComplete_frame (slot : Nat) (pass : Bool) (s : State) :
    (configComplete slot pass s).intake = s.intake ∧ (configComplete slot pass s).clock = s.clock ∧
    (configComplete slot pass s).mirror = s.mirror ∧ (configComplete slot pass s).freeCount = s.freeCount ∧
    (configComplete slot pass s).pending = s.pending := by
  unfold configComplete
  (repeat' split) <;> simp

@[simp] theorem configEraseComplete_frame (pass : Bool) (s : State) :
    (configEraseComplete pass s).intake = s.intake ∧ (configEraseComplete pass s).norm = s.norm ∧
    (configEraseComplete pass s).period = s.period ∧ (configEraseComplete pass s).plant = s.plant ∧
    (configEraseComplete pass s).clock = s.clock ∧ (configEraseComplete pass s).share = s.share ∧
    (configEraseComplete pass s).mirror = s.mirror ∧ (configEraseComplete pass s).freeCount = s.freeCount ∧
    (configEraseComplete pass s).pending = s.pending := by
  unfold configEraseComplete
  (repeat' split) <;> simp

@[simp] theorem carryOutRestart_frame (terminal : Nat) (s : State) :
    (carryOutRestart terminal s).intake = s.intake ∧ (carryOutRestart terminal s).norm = s.norm ∧
    (carryOutRestart terminal s).clock = s.clock ∧ (carryOutRestart terminal s).share = s.share ∧
    (carryOutRestart terminal s).link = s.link ∧ (carryOutRestart terminal s).mirror = s.mirror ∧
    (carryOutRestart terminal s).freeCount = s.freeCount ∧ (carryOutRestart terminal s).pending = s.pending := by
  unfold carryOutRestart
  simp

@[simp] theorem takeRestart_frame (terminal : Nat) (s : State) :
    (takeRestart terminal s).1.intake = s.intake ∧ (takeRestart terminal s).1.norm = s.norm ∧
    (takeRestart terminal s).1.clock = s.clock ∧ (takeRestart terminal s).1.share = s.share ∧
    (takeRestart terminal s).1.link = s.link ∧ (takeRestart terminal s).1.mirror = s.mirror ∧
    (takeRestart terminal s).1.freeCount = s.freeCount ∧ (takeRestart terminal s).1.pending = s.pending := by
  unfold takeRestart
  (repeat' split) <;> simp

@[simp] theorem scanErase_frame (failed : Bool) (b : Nat) (s : State) :
    (scanErase failed b s).intake = s.intake ∧ (scanErase failed b s).norm = s.norm ∧
    (scanErase failed b s).period = s.period ∧ (scanErase failed b s).plant = s.plant ∧
    (scanErase failed b s).clock = s.clock ∧ (scanErase failed b s).share = s.share ∧
    (scanErase failed b s).link = s.link ∧ (scanErase failed b s).mirror = s.mirror ∧
    (scanErase failed b s).readout = s.readout ∧ (scanErase failed b s).ctrl = s.ctrl ∧
    (scanErase failed b s).pending = s.pending := by
  unfold scanErase
  (repeat' split) <;> simp

@[simp] theorem scanRetire_frame (failedErase failedHeader : Bool) (b : Nat) (s : State) :
    (scanRetire failedErase failedHeader b s).intake = s.intake ∧
    (scanRetire failedErase failedHeader b s).norm = s.norm ∧
    (scanRetire failedErase failedHeader b s).period = s.period ∧
    (scanRetire failedErase failedHeader b s).plant = s.plant ∧
    (scanRetire failedErase failedHeader b s).clock = s.clock ∧
    (scanRetire failedErase failedHeader b s).share = s.share ∧
    (scanRetire failedErase failedHeader b s).link = s.link ∧
    (scanRetire failedErase failedHeader b s).mirror = s.mirror ∧
    (scanRetire failedErase failedHeader b s).readout = s.readout ∧
    (scanRetire failedErase failedHeader b s).ctrl = s.ctrl ∧
    (scanRetire failedErase failedHeader b s).pending = s.pending := by
  unfold scanRetire
  (repeat' split) <;> simp

@[simp] theorem settleBlock_frame (all : List ScannedBlock) (failedErases failedHeaders : List Nat) (s : State) (b : ScannedBlock) :
    (settleBlock all failedErases failedHeaders s b).intake = s.intake ∧
    (settleBlock all failedErases failedHeaders s b).norm = s.norm ∧
    (settleBlock all failedErases failedHeaders s b).period = s.period ∧
    (settleBlock all failedErases failedHeaders s b).plant = s.plant ∧
    (settleBlock all failedErases failedHeaders s b).clock = s.clock ∧
    (settleBlock all failedErases failedHeaders s b).share = s.share ∧
    (settleBlock all failedErases failedHeaders s b).link = s.link ∧
    (settleBlock all failedErases failedHeaders s b).mirror = s.mirror ∧
    (settleBlock all failedErases failedHeaders s b).readout = s.readout ∧
    (settleBlock all failedErases failedHeaders s b).ctrl = s.ctrl ∧
    (settleBlock all failedErases failedHeaders s b).pending = s.pending := by
  unfold settleBlock
  (repeat' split) <;> simp

@[simp] theorem foldl_settleBlock_frame (all : List ScannedBlock) (erases headers : List Nat) (l : List ScannedBlock) (s : State) :
    (l.foldl (settleBlock all erases headers) s).intake = s.intake ∧
    (l.foldl (settleBlock all erases headers) s).norm = s.norm ∧
    (l.foldl (settleBlock all erases headers) s).period = s.period ∧
    (l.foldl (settleBlock all erases headers) s).plant = s.plant ∧
    (l.foldl (settleBlock all erases headers) s).clock = s.clock ∧
    (l.foldl (settleBlock all erases headers) s).share = s.share ∧
    (l.foldl (settleBlock all erases headers) s).link = s.link ∧
    (l.foldl (settleBlock all erases headers) s).mirror = s.mirror ∧
    (l.foldl (settleBlock all erases headers) s).readout = s.readout ∧
    (l.foldl (settleBlock all erases headers) s).ctrl = s.ctrl ∧
    (l.foldl (settleBlock all erases headers) s).pending = s.pending := by
  refine ⟨?_, ?_, ?_, ?_, ?_, ?_, ?_, ?_, ?_, ?_, ?_⟩ <;> exact foldl_keeps _ _ (by intro s a; simp) l s

@[simp] theorem openArea_frame (a : Area) (owing : List Nat) (s : State) :
    (openArea a owing s).intake = s.intake ∧ (openArea a owing s).norm = s.norm ∧
    (openArea a owing s).period = s.period ∧ (openArea a owing s).plant = s.plant ∧
    (openArea a owing s).clock = s.clock ∧ (openArea a owing s).share = s.share ∧
    (openArea a owing s).link = s.link ∧ (openArea a owing s).mirror = s.mirror ∧
    (openArea a owing s).readout = s.readout ∧ (openArea a owing s).ctrl = s.ctrl ∧
    (openArea a owing s).freeCount = s.freeCount ∧ (openArea a owing s).pending = s.pending := by
  unfold openArea
  (repeat' split) <;> simp

@[simp] theorem settleStore_frame (failedErases failedHeaders : List Nat) (s : State) :
    (settleStore failedErases failedHeaders s).intake = s.intake ∧
    (settleStore failedErases failedHeaders s).norm = s.norm ∧
    (settleStore failedErases failedHeaders s).period = s.period ∧
    (settleStore failedErases failedHeaders s).plant = s.plant ∧
    (settleStore failedErases failedHeaders s).clock = s.clock ∧
    (settleStore failedErases failedHeaders s).share = s.share ∧
    (settleStore failedErases failedHeaders s).link = s.link ∧
    (settleStore failedErases failedHeaders s).mirror = s.mirror ∧
    (settleStore failedErases failedHeaders s).readout = s.readout ∧
    (settleStore failedErases failedHeaders s).ctrl = s.ctrl ∧
    (settleStore failedErases failedHeaders s).pending = s.pending := by
  unfold settleStore
  simp

@[simp] theorem locateConfig_frame (s : State) :
    (locateConfig s).intake = s.intake ∧ (locateConfig s).norm = s.norm ∧ (locateConfig s).period = s.period ∧
    (locateConfig s).plant = s.plant ∧ (locateConfig s).clock = s.clock ∧ (locateConfig s).share = s.share ∧
    (locateConfig s).link = s.link ∧ (locateConfig s).mirror = s.mirror ∧ (locateConfig s).readout = s.readout ∧
    (locateConfig s).ctrl = s.ctrl ∧ (locateConfig s).freeCount = s.freeCount ∧
    (locateConfig s).pending = s.pending := by
  unfold locateConfig
  simp

@[simp] theorem judgeStore_frame (s : State) :
    (judgeStore s).intake = s.intake ∧ (judgeStore s).norm = s.norm ∧ (judgeStore s).period = s.period ∧
    (judgeStore s).plant = s.plant ∧ (judgeStore s).clock = s.clock ∧ (judgeStore s).share = s.share ∧
    (judgeStore s).link = s.link ∧ (judgeStore s).mirror = s.mirror ∧ (judgeStore s).readout = s.readout ∧
    (judgeStore s).ctrl = s.ctrl ∧ (judgeStore s).freeCount = s.freeCount ∧ (judgeStore s).pending = s.pending := by
  unfold judgeStore
  simp

@[simp] theorem formIndex_frame (s : State) :
    (formIndex s).intake = s.intake ∧ (formIndex s).norm = s.norm ∧ (formIndex s).period = s.period ∧
    (formIndex s).plant = s.plant ∧ (formIndex s).clock = s.clock ∧ (formIndex s).share = s.share ∧
    (formIndex s).link = s.link ∧ (formIndex s).mirror = s.mirror ∧ (formIndex s).readout = s.readout ∧
    (formIndex s).ctrl = s.ctrl ∧ (formIndex s).freeCount = s.freeCount ∧ (formIndex s).pending = s.pending := by
  unfold formIndex
  simp

@[simp] theorem handOverMirror_frame (s : State) :
    (handOverMirror s).intake = s.intake ∧ (handOverMirror s).norm = s.norm ∧ (handOverMirror s).period = s.period ∧
    (handOverMirror s).plant = s.plant ∧ (handOverMirror s).clock = s.clock ∧ (handOverMirror s).share = s.share ∧
    (handOverMirror s).link = s.link ∧ (handOverMirror s).store = s.store ∧ (handOverMirror s).readout = s.readout ∧
    (handOverMirror s).ctrl = s.ctrl ∧ (handOverMirror s).freeCount = s.freeCount ∧
    (handOverMirror s).pending = s.pending := by
  unfold handOverMirror
  simp

@[simp] theorem handOverPeriod_frame (newest : Option Id) (own : List SlotImage) (s : State) :
    (handOverPeriod newest own s).intake = s.intake ∧ (handOverPeriod newest own s).norm = s.norm ∧
    (handOverPeriod newest own s).plant = s.plant ∧ (handOverPeriod newest own s).clock = s.clock ∧
    (handOverPeriod newest own s).share = s.share ∧ (handOverPeriod newest own s).link = s.link ∧
    (handOverPeriod newest own s).store = s.store ∧ (handOverPeriod newest own s).mirror = s.mirror ∧
    (handOverPeriod newest own s).readout = s.readout ∧ (handOverPeriod newest own s).ctrl = s.ctrl ∧
    (handOverPeriod newest own s).freeCount = s.freeCount ∧ (handOverPeriod newest own s).pending = s.pending := by
  unfold handOverPeriod
  simp

@[simp] theorem restoreLevels_frame (carried : Nat) (s : State) :
    (restoreLevels carried s).intake = s.intake ∧ (restoreLevels carried s).norm = s.norm ∧
    (restoreLevels carried s).clock = s.clock ∧ (restoreLevels carried s).share = s.share ∧
    (restoreLevels carried s).link = s.link ∧ (restoreLevels carried s).mirror = s.mirror ∧
    (restoreLevels carried s).readout = s.readout ∧ (restoreLevels carried s).ctrl = s.ctrl ∧
    (restoreLevels carried s).freeCount = s.freeCount ∧ (restoreLevels carried s).pending = s.pending := by
  unfold restoreLevels
  (repeat' split) <;> simp

@[simp] theorem handOverPlant_frame (own : List SlotImage) (s : State) :
    (handOverPlant own s).intake = s.intake ∧ (handOverPlant own s).norm = s.norm ∧
    (handOverPlant own s).clock = s.clock ∧ (handOverPlant own s).share = s.share ∧
    (handOverPlant own s).link = s.link ∧ (handOverPlant own s).mirror = s.mirror ∧
    (handOverPlant own s).readout = s.readout ∧ (handOverPlant own s).ctrl = s.ctrl ∧
    (handOverPlant own s).freeCount = s.freeCount ∧ (handOverPlant own s).pending = s.pending := by
  unfold handOverPlant
  dsimp only
  (repeat' split) <;> simp

@[simp] theorem handOverController_frame (s : State) :
    (handOverController s).intake = s.intake ∧ (handOverController s).period = s.period ∧
    (handOverController s).clock = s.clock ∧ (handOverController s).link = s.link ∧
    (handOverController s).mirror = s.mirror ∧ (handOverController s).freeCount = s.freeCount ∧
    (handOverController s).pending = s.pending := by
  unfold handOverController
  (repeat' split) <;> simp

@[simp] theorem scanEnds_frame (failedErases failedHeaders : List Nat) (s : State) :
    (scanEnds failedErases failedHeaders s).intake = s.intake ∧
    (scanEnds failedErases failedHeaders s).clock = s.clock ∧ (scanEnds failedErases failedHeaders s).link = s.link ∧
    (scanEnds failedErases failedHeaders s).pending = s.pending := by
  unfold scanEnds
  (repeat' split) <;> simp

@[simp] theorem takeStatus_frame (terminal : Nat) (payload : List Byte) (s : State) :
    (takeStatus terminal payload s).intake = s.intake ∧ (takeStatus terminal payload s).norm = s.norm ∧
    (takeStatus terminal payload s).period = s.period ∧ (takeStatus terminal payload s).plant = s.plant ∧
    (takeStatus terminal payload s).clock = s.clock ∧ (takeStatus terminal payload s).share = s.share ∧
    (takeStatus terminal payload s).store = s.store ∧ (takeStatus terminal payload s).mirror = s.mirror ∧
    (takeStatus terminal payload s).readout = s.readout ∧ (takeStatus terminal payload s).ctrl = s.ctrl ∧
    (takeStatus terminal payload s).freeCount = s.freeCount ∧
    (takeStatus terminal payload s).pending = s.pending := by
  unfold takeStatus
  (repeat' split) <;> simp

@[simp] theorem takeWindow_frame (terminal : Nat) (payload : List Byte) (s : State) :
    (takeWindow terminal payload s).1.intake = s.intake ∧ (takeWindow terminal payload s).1.norm = s.norm ∧
    (takeWindow terminal payload s).1.period = s.period ∧ (takeWindow terminal payload s).1.plant = s.plant ∧
    (takeWindow terminal payload s).1.clock = s.clock ∧ (takeWindow terminal payload s).1.share = s.share ∧
    (takeWindow terminal payload s).1.link = s.link ∧ (takeWindow terminal payload s).1.store = s.store ∧
    (takeWindow terminal payload s).1.mirror = s.mirror ∧ (takeWindow terminal payload s).1.ctrl = s.ctrl ∧
    (takeWindow terminal payload s).1.freeCount = s.freeCount ∧
    (takeWindow terminal payload s).1.pending = s.pending := by
  unfold takeWindow
  (repeat' split) <;> simp

@[simp] theorem serveRead_frame (r : WaitingRead) (w : Window) (s : State) :
    (serveRead r w s).intake = s.intake ∧ (serveRead r w s).norm = s.norm ∧ (serveRead r w s).period = s.period ∧
    (serveRead r w s).plant = s.plant ∧ (serveRead r w s).clock = s.clock ∧ (serveRead r w s).share = s.share ∧
    (serveRead r w s).store = s.store ∧ (serveRead r w s).mirror = s.mirror ∧ (serveRead r w s).ctrl = s.ctrl ∧
    (serveRead r w s).freeCount = s.freeCount ∧ (serveRead r w s).pending = s.pending := by
  unfold serveRead
  simp

@[simp] theorem serveWaiting_frame (s : State) :
    (serveWaiting s).intake = s.intake ∧ (serveWaiting s).norm = s.norm ∧ (serveWaiting s).period = s.period ∧
    (serveWaiting s).plant = s.plant ∧ (serveWaiting s).clock = s.clock ∧ (serveWaiting s).share = s.share ∧
    (serveWaiting s).store = s.store ∧ (serveWaiting s).mirror = s.mirror ∧ (serveWaiting s).ctrl = s.ctrl ∧
    (serveWaiting s).freeCount = s.freeCount ∧ (serveWaiting s).pending = s.pending := by
  unfold serveWaiting
  dsimp only
  (repeat' split) <;> simp

@[simp] theorem takeReadOf_frame (terminal : Nat) (repeated : Bool) (w : Window) (s : State) :
    (takeReadOf terminal repeated w s).intake = s.intake ∧ (takeReadOf terminal repeated w s).norm = s.norm ∧
    (takeReadOf terminal repeated w s).period = s.period ∧ (takeReadOf terminal repeated w s).plant = s.plant ∧
    (takeReadOf terminal repeated w s).clock = s.clock ∧ (takeReadOf terminal repeated w s).share = s.share ∧
    (takeReadOf terminal repeated w s).store = s.store ∧ (takeReadOf terminal repeated w s).mirror = s.mirror ∧
    (takeReadOf terminal repeated w s).ctrl = s.ctrl ∧ (takeReadOf terminal repeated w s).freeCount = s.freeCount ∧
    (takeReadOf terminal repeated w s).pending = s.pending := by
  unfold takeReadOf
  dsimp only
  (repeat' split) <;> simp

@[simp] theorem takeRead_frame (terminal : Nat) (payload : List Byte) (s : State) :
    (takeRead terminal payload s).intake = s.intake ∧ (takeRead terminal payload s).norm = s.norm ∧
    (takeRead terminal payload s).period = s.period ∧ (takeRead terminal payload s).plant = s.plant ∧
    (takeRead terminal payload s).clock = s.clock ∧ (takeRead terminal payload s).share = s.share ∧
    (takeRead terminal payload s).store = s.store ∧ (takeRead terminal payload s).mirror = s.mirror ∧
    (takeRead terminal payload s).ctrl = s.ctrl ∧ (takeRead terminal payload s).freeCount = s.freeCount ∧
    (takeRead terminal payload s).pending = s.pending := by
  unfold takeRead
  (repeat' split) <;> simp

@[simp] theorem takeConfigureBytes_frame (payload : List Byte) (s : State) :
    (takeConfigureBytes payload s).1.intake = s.intake ∧ (takeConfigureBytes payload s).1.norm = s.norm ∧
    (takeConfigureBytes payload s).1.period = s.period ∧ (takeConfigureBytes payload s).1.plant = s.plant ∧
    (takeConfigureBytes payload s).1.clock = s.clock ∧ (takeConfigureBytes payload s).1.share = s.share ∧
    (takeConfigureBytes payload s).1.link = s.link ∧ (takeConfigureBytes payload s).1.store = s.store ∧
    (takeConfigureBytes payload s).1.mirror = s.mirror ∧ (takeConfigureBytes payload s).1.readout = s.readout ∧
    (takeConfigureBytes payload s).1.freeCount = s.freeCount ∧
    (takeConfigureBytes payload s).1.pending = s.pending := by
  unfold takeConfigureBytes
  (repeat' split) <;> simp

@[simp] theorem takeStartRequest_frame (terminal : Nat) (s : State) :
    (takeStartRequest terminal s).intake = s.intake ∧ (takeStartRequest terminal s).norm = s.norm ∧
    (takeStartRequest terminal s).period = s.period ∧ (takeStartRequest terminal s).plant = s.plant ∧
    (takeStartRequest terminal s).clock = s.clock ∧ (takeStartRequest terminal s).share = s.share ∧
    (takeStartRequest terminal s).mirror = s.mirror ∧ (takeStartRequest terminal s).freeCount = s.freeCount ∧
    (takeStartRequest terminal s).pending = s.pending := by
  unfold takeStartRequest
  have h := takeStart_frame terminal s.now s
  generalize takeStart terminal s.now s = r at h ⊢
  obtain ⟨s', _ | c⟩ := r <;> simp_all

@[simp] theorem untimedEnds_frame (s : State) :
    (untimedEnds s).intake = s.intake ∧ (untimedEnds s).norm = s.norm ∧ (untimedEnds s).mirror = s.mirror ∧
    (untimedEnds s).readout = s.readout ∧ (untimedEnds s).ctrl = s.ctrl ∧ (untimedEnds s).freeCount = s.freeCount ∧
    (untimedEnds s).pending = s.pending := by
  unfold untimedEnds
  (repeat' split) <;> simp

@[simp] theorem ageOut_frame (station : Nat) (s : State) :
    (ageOut station s).intake = s.intake ∧ (ageOut station s).norm = s.norm ∧ (ageOut station s).period = s.period ∧
    (ageOut station s).store = s.store ∧ (ageOut station s).mirror = s.mirror ∧
    (ageOut station s).readout = s.readout ∧ (ageOut station s).ctrl = s.ctrl ∧
    (ageOut station s).freeCount = s.freeCount ∧ (ageOut station s).pending = s.pending := by
  unfold ageOut
  (repeat' split) <;> simp

@[simp] theorem eraseComplete_frame (pass : Bool) (s : State) :
    (eraseComplete pass s).intake = s.intake ∧ (eraseComplete pass s).norm = s.norm ∧
    (eraseComplete pass s).period = s.period ∧ (eraseComplete pass s).clock = s.clock ∧
    (eraseComplete pass s).share = s.share ∧ (eraseComplete pass s).mirror = s.mirror ∧
    (eraseComplete pass s).pending = s.pending := by
  unfold eraseComplete
  (repeat' split) <;> simp

@[simp] theorem slotCopyComplete_frame (pass : Bool) (s : State) :
    (slotCopyComplete pass s).intake = s.intake ∧ (slotCopyComplete pass s).norm = s.norm ∧
    (slotCopyComplete pass s).period = s.period ∧ (slotCopyComplete pass s).plant = s.plant ∧
    (slotCopyComplete pass s).clock = s.clock ∧ (slotCopyComplete pass s).share = s.share ∧
    (slotCopyComplete pass s).link = s.link ∧ (slotCopyComplete pass s).mirror = s.mirror ∧
    (slotCopyComplete pass s).readout = s.readout ∧ (slotCopyComplete pass s).ctrl = s.ctrl ∧
    (slotCopyComplete pass s).freeCount = s.freeCount ∧ (slotCopyComplete pass s).pending = s.pending := by
  unfold slotCopyComplete
  (repeat' split) <;> simp

end Sys2Proof.Laws
end

