-- ==== Sys2Proof/Laws/Clock.lean ====
section
/-! SUPPORT. What the passing of time leaves of the running minute, and what is read off the station while blocks other than the
controller change. -/

namespace Sys2Proof.Laws

open Sys2Proof.Machine

/-- Time that passes within the running minute leaves its names, its successor and its place in the clock's range. -/
@[simp] theorem advance_views (t : StationTime) (len dt : Nat) :
    (t.advance len dt).year = t.year ∧ (t.advance len dt).day = t.day ∧ (t.advance len dt).minute = t.minute ∧
    (t.advance len dt).minuteId = t.minuteId ∧ (t.advance len dt).interval = t.interval ∧
    (t.advance len dt).nextMinute = t.nextMinute ∧ (t.advance len dt).atRangeEnd = t.atRangeEnd := by
  unfold StationTime.advance
  split <;> simp [StationTime.minuteId, StationTime.interval, StationTime.nextMinute, StationTime.atRangeEnd]

/-- The clock after time has passed. -/
theorem elapse_clock (dt : Nat) (s : State) :
    (elapse dt s).clock = { s.clock with
      time := s.clock.time.map (fun t => t.advance s.clock.minuteLength dt),
      lastClosed := s.clock.lastClosed.map (fun l => { l with elapsed := l.elapsed + dt }) } := by
  simp [elapse]

/-- What time does to the entries of the transmit queue (R96): those in transmission and those whose deadlines are not passed
stay, in their order; the others are counted, a RESULT also as a result miss. -/
theorem expireOverdue_queue (l : Link) :
    l.expireOverdue.queue = l.queue.filter (fun e => e.sending || decide (l.deadlineTimer ≤ e.deadline)) ∧
    l.expireOverdue.expiredFrames = min (l.expiredFrames +
      (l.queue.filter (fun e => e.overdue l.deadlineTimer)).length) 65535 ∧
    l.expireOverdue.resultMisses = min (l.resultMisses +
      ((l.queue.filter (fun e => e.overdue l.deadlineTimer)).filter (fun e => e.kind == .result)).length) 65535 := by
  refine ⟨?_, by simp [Link.expireOverdue, count16], by simp [Link.expireOverdue, count16]⟩
  simp only [Link.expireOverdue, TxEntry.overdue]
  congr 1
  funext e
  by_cases h : e.deadline < l.deadlineTimer
  · simp [h, Nat.not_le.mpr h]
  · simp [h, Nat.not_lt.mp h]

/-- Expiries leave the rest of the link controller alone. -/
@[simp] theorem expireOverdue_rest (l : Link) :
    l.expireOverdue.receiver = l.receiver ∧ l.expireOverdue.characters = l.characters ∧
    l.expireOverdue.attempt = l.attempt ∧ l.expireOverdue.linkFault = l.linkFault ∧
    l.expireOverdue.receiveErrors = l.receiveErrors ∧ l.expireOverdue.transmitErrors = l.transmitErrors ∧
    l.expireOverdue.addressClashes = l.addressClashes ∧ l.expireOverdue.deadlineTimer = l.deadlineTimer := by
  simp [Link.expireOverdue]

/-- The passing of time runs the deadline timer and an attempt's characters, and leaves the rest of the link controller. -/
@[simp] theorem advance_link (l : Link) (station dt : Nat) :
    (l.advance station dt).queue = l.queue ∧ (l.advance station dt).receiver = l.receiver ∧
    (l.advance station dt).linkFault = l.linkFault ∧ (l.advance station dt).receiveErrors = l.receiveErrors ∧
    (l.advance station dt).transmitErrors = l.transmitErrors ∧ (l.advance station dt).resultMisses = l.resultMisses ∧
    (l.advance station dt).expiredFrames = l.expiredFrames ∧ (l.advance station dt).addressClashes = l.addressClashes ∧
    (l.advance station dt).deadlineTimer = l.deadlineTimer + dt ∧
    (l.advance station dt).attempt.isSome = l.attempt.isSome := by
  simp only [Link.advance]
  split <;> simp_all

/-- Time that passes leaves the receiver and the other counts alone and runs the deadline timer; of the transmit queue the
entries in transmission and those whose deadlines are not passed stay (R96). -/
@[simp] theorem elapse_link (dt : Nat) (s : State) :
    (elapse dt s).link.queue =
      s.link.queue.filter (fun e => e.sending || decide (s.link.deadlineTimer + dt ≤ e.deadline)) ∧
    (elapse dt s).link.receiver = s.link.receiver ∧ (elapse dt s).link.linkFault = s.link.linkFault ∧
    (elapse dt s).link.receiveErrors = s.link.receiveErrors ∧
    (elapse dt s).link.transmitErrors = s.link.transmitErrors ∧
    (elapse dt s).link.addressClashes = s.link.addressClashes ∧
    (elapse dt s).link.deadlineTimer = s.link.deadlineTimer + dt ∧
    (elapse dt s).link.attempt.isSome = s.link.attempt.isSome := by
  simp [elapse, (expireOverdue_queue _).1]

/-- The expiries that time brings are counted (R96, R97). -/
theorem elapse_expiries (dt : Nat) (s : State) :
    (elapse dt s).link.expiredFrames = min (s.link.expiredFrames +
      (s.link.queue.filter (fun e => e.overdue (s.link.deadlineTimer + dt))).length) 65535 ∧
    (elapse dt s).link.resultMisses = min (s.link.resultMisses +
      ((s.link.queue.filter (fun e => e.overdue (s.link.deadlineTimer + dt))).filter
        (fun e => e.kind == .result)).length) 65535 := by
  simp [elapse, (expireOverdue_queue _).2]

/-- The load share unit after time has passed. -/
@[simp] theorem elapse_share (dt : Nat) (s : State) : (elapse dt s).share = s.share.advance dt := by
  simp [elapse]

/-- The configuration in force is read off the controller alone. -/
theorem config?_congr {s t : State} (h : t.ctrl = s.ctrl) : t.config? = s.config? := by
  simp [State.config?, h]

/-- The station number and the configuration are read off the controller alone. -/
theorem config_congr {s t : State} (h : t.ctrl = s.ctrl) :
    t.station = s.station ∧ t.config = s.config ∧ t.stackGroup = s.stackGroup := by
  simp [State.station, State.config, State.stackGroup, State.config?, h]

end Sys2Proof.Laws
end

