-- ==== Sys2Proof/Laws/DieKept.lean ====
section
/-! SUPPORT. The operations on the record store that leave the die alone. -/

namespace Sys2Proof.Laws

open Sys2Proof.Machine

@[simp] theorem setBlock_dieKept (b : Nat) (f : BlockEntry → BlockEntry) (s : State) :
    (setBlock b f s).store.die = s.store.die := by
  unfold setBlock
  simp

@[simp] theorem setProgrammer_dieKept (op : Option ProgOp) (s : State) :
    (setProgrammer op s).store.die = s.store.die := by
  unfold setProgrammer
  simp

@[simp] theorem offerOwn_dieKept (r : SlotImage) (s : State) :
    (offerOwn r s).store.die = s.store.die := by
  unfold offerOwn
  (repeat' split) <;> simp

@[simp] theorem offerNotice_dieKept (code : NoticeCode) (params : List Byte) (s : State) :
    (offerNotice code params s).store.die = s.store.die := by
  unfold offerNotice
  simp

@[simp] theorem offerAbnEnd_dieKept (cause : Cause) (minutes : Nat) (s : State) :
    (offerAbnEnd cause minutes s).store.die = s.store.die := by
  unfold offerAbnEnd
  simp

@[simp] theorem enterCutoff_dieKept (cause : CutoffCause) (s : State) :
    (enterCutoff cause s).store.die = s.store.die := by
  unfold enterCutoff
  simp

@[simp] theorem cutoffFromAbnormal_dieKept (cause : CutoffCause) (ending : Cause) (s : State) :
    (cutoffFromAbnormal cause ending s).store.die = s.store.die := by
  unfold cutoffFromAbnormal
  simp

@[simp] theorem checkLimits_dieKept (s : State) :
    (checkLimits s).store.die = s.store.die := by
  unfold checkLimits
  (repeat' split) <;> simp

@[simp] theorem enterAbnormal_dieKept (cause : Cause) (carried : Nat) (s : State) :
    (enterAbnormal cause carried s).store.die = s.store.die := by
  unfold enterAbnormal
  simp

@[simp] theorem endEpisode_dieKept (cause : Cause) (s : State) :
    (endEpisode cause s).store.die = s.store.die := by
  unfold endEpisode
  simp

@[simp] theorem edgeMachine_dieKept (line : InputLine) (active : Bool) (s : State) :
    (edgeMachine line active s).store.die = s.store.die := by
  unfold edgeMachine
  (repeat' split) <;> simp

@[simp] theorem takeEdge_dieKept (line : InputLine) (active : Bool) (s : State) :
    (takeEdge line active s).store.die = s.store.die := by
  unfold takeEdge
  dsimp only
  (repeat' split) <;> simp

@[simp] theorem countMinute_dieKept (s : State) :
    (countMinute s).store.die = s.store.die := by
  unfold countMinute
  dsimp only
  (repeat' split) <;> simp

@[simp] theorem plantMinuteClose_dieKept (year : Nat) (s : State) :
    (plantMinuteClose year s).store.die = s.store.die := by
  unfold plantMinuteClose
  simp

@[simp] theorem untimedExpiry_dieKept (s : State) :
    (untimedExpiry s).store.die = s.store.die := by
  unfold untimedExpiry
  simp

@[simp] theorem stopUntimedTimer_dieKept (year : Nat) (s : State) :
    (stopUntimedTimer year s).store.die = s.store.die := by
  unfold stopUntimedTimer
  (repeat' split) <;> simp

@[simp] theorem takeRelease_dieKept (terminal : Nat) (s : State) :
    (takeRelease terminal s).1.store.die = s.store.die := by
  unfold takeRelease
  (repeat' split) <;> simp

@[simp] theorem offerYear_dieKept (year : Nat) (s : State) :
    (offerYear year s).store.die = s.store.die := by
  unfold offerYear
  simp

@[simp] theorem yearClose_dieKept (s : State) :
    (yearClose s).store.die = s.store.die := by
  unfold yearClose
  (repeat' split) <;> simp

@[simp] theorem dayClose_dieKept (s : State) :
    (dayClose s).store.die = s.store.die := by
  unfold dayClose
  (repeat' split) <;> simp

@[simp] theorem closeLateDay_dieKept (x : Id) (s : State) :
    (closeLateDay x s).1.store.die = s.store.die := by
  unfold closeLateDay
  dsimp only
  (repeat' split) <;> simp

@[simp] theorem lateYear_dieKept (x : Id) (entered : Bool) (s : State) :
    (lateYear x entered s).store.die = s.store.die := by
  unfold lateYear
  (repeat' split) <;> simp

@[simp] theorem offerGap_dieKept (l x : Id) (s : State) :
    (offerGap l x s).store.die = s.store.die := by
  unfold offerGap
  simp

@[simp] theorem openFirst_dieKept (x : Id) (isPartial : Bool) (s : State) :
    (openFirst x isPartial s).store.die = s.store.die := by
  unfold openFirst
  dsimp only
  (repeat' split) <;> simp

@[simp] theorem closeOpenInterval_dieKept (o : OpenInterval) (fate : Fate) (s : State) :
    (closeOpenInterval o fate s).store.die = s.store.die := by
  unfold closeOpenInterval
  (repeat' split) <;> simp

@[simp] theorem periodIntervalClose_dieKept (early : Bool) (next : Id) (s : State) :
    (periodIntervalClose early next s).store.die = s.store.die := by
  unfold periodIntervalClose
  (repeat' split) <;> simp

@[simp] theorem interruptPeriod_dieKept (s : State) :
    (interruptPeriod s).store.die = s.store.die := by
  unfold interruptPeriod
  (repeat' split) <;> simp

@[simp] theorem enterRecordingByTime_dieKept (t : StationTime) (s : State) :
    (enterRecordingByTime t s).store.die = s.store.die := by
  unfold enterRecordingByTime
  (repeat' split) <;> simp

@[simp] theorem setIndex_dieKept (r : SlotImage) (block slot : Nat) (s : State) :
    (setIndex r block slot s).store.die = s.store.die := by
  unfold setIndex
  (repeat' split) <;> simp

@[simp] theorem advanceIndexYear_dieKept (year : Nat) (s : State) :
    (advanceIndexYear year s).store.die = s.store.die := by
  unfold advanceIndexYear
  (repeat' split) <;> simp

@[simp] theorem pruneIndex_dieKept (s : State) :
    (pruneIndex s).store.die = s.store.die := by
  unfold pruneIndex
  simp

@[simp] theorem moveIndex_dieKept (source target : Nat) (s : State) :
    (moveIndex source target s).store.die = s.store.die := by
  unfold moveIndex
  simp

@[simp] theorem repointIndex_dieKept (b : Nat) (s : State) :
    (repointIndex b s).store.die = s.store.die := by
  unfold repointIndex
  (repeat' split) <;> simp

@[simp] theorem stallMirror_dieKept (s : State) :
    (stallMirror s).store.die = s.store.die := by
  unfold stallMirror
  simp

@[simp] theorem stallArea_dieKept (a : Area) (s : State) :
    (stallArea a s).store.die = s.store.die := by
  unfold stallArea
  (repeat' split) <;> simp

@[simp] theorem recheckStalled_dieKept (s : State) :
    (recheckStalled s).store.die = s.store.die := by
  unfold recheckStalled
  simp

@[simp] theorem beginErase_dieKept (b : Nat) (purpose : ErasePurpose) (s : State) :
    (beginErase b purpose s).store.die = s.store.die := by
  unfold beginErase
  (repeat' split) <;> simp

@[simp] theorem takeSequence_dieKept (s : State) :
    (takeSequence s).store.die = s.store.die := by
  unfold takeSequence
  simp

@[simp] theorem takeErased_dieKept (s : State) :
    (takeErased s).store.die = s.store.die := by
  unfold takeErased
  simp

@[simp] theorem beginOpen_dieKept (a : Area) (s : State) :
    (beginOpen a s).store.die = s.store.die := by
  unfold beginOpen
  (repeat' split) <;> simp

@[simp] theorem beginTarget_dieKept (s : State) :
    (beginTarget s).store.die = s.store.die := by
  unfold beginTarget
  (repeat' split) <;> simp

@[simp] theorem beginRelocation_dieKept (a : Area) (b recordSlot : Nat) (s : State) :
    (beginRelocation a b recordSlot s).store.die = s.store.die := by
  unfold beginRelocation
  simp

@[simp] theorem abandonMirrorRelocation_dieKept (r : Relocation) (s : State) :
    (abandonMirrorRelocation r s).store.die = s.store.die := by
  unfold abandonMirrorRelocation
  (repeat' split) <;> simp

@[simp] theorem takeWork_dieKept (w : Work) (s : State) :
    (takeWork w s).store.die = s.store.die := by
  unfold takeWork
  (repeat' split) <;> simp

@[simp] theorem ownRecordPass_dieKept (r : SlotImage) (b slot : Nat) (s : State) :
    (ownRecordPass r b slot s).store.die = s.store.die := by
  unfold ownRecordPass
  (repeat' split) <;> simp

@[simp] theorem mirrorRecordPass_dieKept (r : SlotImage) (b slot : Nat) (s : State) :
    (mirrorRecordPass r b slot s).store.die = s.store.die := by
  unfold mirrorRecordPass
  simp

@[simp] theorem recordPass_dieKept (a : Area) (r : SlotImage) (b slot : Nat) (s : State) :
    (recordPass a r b slot s).store.die = s.store.die := by
  unfold recordPass
  (repeat' split) <;> simp

@[simp] theorem fillCheck_dieKept (a : Area) (b : Nat) (s : State) :
    (fillCheck a b s).store.die = s.store.die := by
  unfold fillCheck
  simp

@[simp] theorem retireToCleanup_dieKept (b : Nat) (s : State) :
    (retireToCleanup b s).store.die = s.store.die := by
  unfold retireToCleanup
  simp

@[simp] theorem giveUpWaitingRelocation_dieKept (s : State) :
    (giveUpWaitingRelocation s).store.die = s.store.die := by
  unfold giveUpWaitingRelocation
  dsimp only
  (repeat' split) <;> simp

@[simp] theorem setRelocation_dieKept (r : Option Relocation) (s : State) :
    (setRelocation r s).store.die = s.store.die := by
  unfold setRelocation
  simp

@[simp] theorem abandonTarget_dieKept (r : Relocation) (b : Nat) (s : State) :
    (abandonTarget r b s).store.die = s.store.die := by
  unfold abandonTarget
  simp

@[simp] theorem finishCleanup_dieKept (s : State) :
    (finishCleanup s).store.die = s.store.die := by
  unfold finishCleanup
  dsimp only
  (repeat' split) <;> simp

@[simp] theorem closeInterval_dieKept (early : Bool) (closing next : Id) (s : State) :
    (closeInterval early closing next s).store.die = s.store.die := by
  unfold closeInterval
  dsimp only
  (repeat' split) <;> simp

@[simp] theorem offerAdjust_dieKept (staged : Option StagedAdjustment) (s : State) :
    (offerAdjust staged s).store.die = s.store.die := by
  unfold offerAdjust
  (repeat' split) <;> simp

@[simp] theorem storeDayClose_dieKept (year : Nat) (s : State) :
    (storeDayClose year s).store.die = s.store.die := by
  unfold storeDayClose
  simp

@[simp] theorem closeMinute_dieKept (early : Bool) (s : State) :
    (closeMinute early s).store.die = s.store.die := by
  unfold closeMinute
  (repeat' split) <;> simp

@[simp] theorem minuteEnds_dieKept (s : State) :
    (minuteEnds s).store.die = s.store.die := by
  unfold minuteEnds
  (repeat' split) <;> simp

@[simp] theorem setTime_dieKept (t : StationTime) (last : Option LastClosed) (s : State) :
    (setTime t last s).store.die = s.store.die := by
  unfold setTime
  simp

@[simp] theorem acquireTime_dieKept (t : StationTime) (last : Option LastClosed) (s : State) :
    (acquireTime t last s).store.die = s.store.die := by
  unfold acquireTime
  simp

@[simp] theorem decideMark_dieKept (i : Id) (s : State) :
    (decideMark i s).store.die = s.store.die := by
  unfold decideMark
  (repeat' split) <;> simp

@[simp] theorem takeMark_dieKept (i : Id) (s : State) :
    (takeMark i s).store.die = s.store.die := by
  unfold takeMark
  (repeat' split) <;> simp

@[simp] theorem takeTime_dieKept (terminal : Nat) (f : TimeFields) (s : State) :
    (takeTime terminal f s).1.store.die = s.store.die := by
  unfold takeTime
  (repeat' split) <;> simp

@[simp] theorem offerMirror_dieKept (r : SlotImage) (s : State) :
    (offerMirror r s).store.die = s.store.die := by
  unfold offerMirror
  (repeat' split) <;> simp

@[simp] theorem takeResult_dieKept (sender : Nat) (r : SlotImage) (s : State) :
    (takeResult sender r s).store.die = s.store.die := by
  unfold takeResult
  dsimp only
  (repeat' split) <;> simp

@[simp] theorem comeIntoForce_dieKept (f : InForce) (s : State) :
    (comeIntoForce f s).store.die = s.store.die := by
  unfold comeIntoForce
  simp [Store.dropFormerPartners]

@[simp] theorem beginStart_dieKept (terminal taken : Nat) (s : State) :
    (beginStart terminal taken s).store.die = s.store.die := by
  unfold beginStart
  simp

@[simp] theorem takeStart_dieKept (terminal taken : Nat) (s : State) :
    (takeStart terminal taken s).1.store.die = s.store.die := by
  unfold takeStart
  (repeat' split) <;> simp

@[simp] theorem enterFromSetup_dieKept (f : InForce) (terminal : Nat) (s : State) :
    (enterFromSetup f terminal s).store.die = s.store.die := by
  unfold enterFromSetup
  (repeat' split) <;> simp

@[simp] theorem carryOutStart_dieKept (w : ConfigWrite) (s : State) :
    (carryOutStart w s).store.die = s.store.die := by
  unfold carryOutStart
  (repeat' split) <;> simp

@[simp] theorem carryOutRestart_dieKept (terminal : Nat) (s : State) :
    (carryOutRestart terminal s).store.die = s.store.die := by
  unfold carryOutRestart
  simp

@[simp] theorem takeRestart_dieKept (terminal : Nat) (s : State) :
    (takeRestart terminal s).1.store.die = s.store.die := by
  unfold takeRestart
  (repeat' split) <;> simp

@[simp] theorem openArea_dieKept (a : Area) (owing : List Nat) (s : State) :
    (openArea a owing s).store.die = s.store.die := by
  unfold openArea
  (repeat' split) <;> simp

@[simp] theorem locateConfig_dieKept (s : State) :
    (locateConfig s).store.die = s.store.die := by
  unfold locateConfig
  simp

@[simp] theorem judgeStore_dieKept (s : State) :
    (judgeStore s).store.die = s.store.die := by
  unfold judgeStore
  simp

@[simp] theorem formIndex_dieKept (s : State) :
    (formIndex s).store.die = s.store.die := by
  unfold formIndex
  simp

@[simp] theorem restoreLevels_dieKept (carried : Nat) (s : State) :
    (restoreLevels carried s).store.die = s.store.die := by
  unfold restoreLevels
  (repeat' split) <;> simp

@[simp] theorem handOverPlant_dieKept (own : List SlotImage) (s : State) :
    (handOverPlant own s).store.die = s.store.die := by
  unfold handOverPlant
  dsimp only
  (repeat' split) <;> simp

@[simp] theorem handOverController_dieKept (s : State) :
    (handOverController s).store.die = s.store.die := by
  unfold handOverController
  (repeat' split) <;> simp

@[simp] theorem takeStartRequest_dieKept (terminal : Nat) (s : State) :
    (takeStartRequest terminal s).store.die = s.store.die := by
  unfold takeStartRequest
  have h := takeStart_dieKept terminal s.now s
  generalize takeStart terminal s.now s = r at h ⊢
  obtain ⟨s', _ | c⟩ := r <;> simp_all

@[simp] theorem untimedEnds_dieKept (s : State) :
    (untimedEnds s).store.die = s.store.die := by
  unfold untimedEnds
  (repeat' split) <;> simp

end Sys2Proof.Laws
end

