-- ==== Sys2Proof/Laws/Receive.lean ====
section
/-! SUPPORT. What a command that carries a frame comes to: the receiver's part, the checks, the gate of the readout unit, and the
reply. Each lemma says once what the provers would else unfold. -/

namespace Sys2Proof.Laws

open Sys2Proof.Machine

/-- Two states with the same parts are the same. -/
theorem state_ext {s t : State} (h1 : t.intake = s.intake) (h2 : t.norm = s.norm) (h3 : t.period = s.period)
    (h4 : t.plant = s.plant) (h5 : t.clock = s.clock) (h6 : t.share = s.share) (h7 : t.link = s.link)
    (h8 : t.store = s.store) (h9 : t.mirror = s.mirror) (h10 : t.readout = s.readout) (h11 : t.ctrl = s.ctrl)
    (h12 : t.freeCount = s.freeCount) (h13 : t.pending = s.pending) : t = s := by
  cases s
  cases t
  simp_all

@[simp] theorem setReceiver_afterFrame (s : State) : setReceiver .afterFrame s = s.frameOver := rfl

@[simp] theorem frameOver_frame (s : State) :
    s.frameOver.intake = s.intake ∧ s.frameOver.norm = s.norm ∧ s.frameOver.period = s.period ∧
    s.frameOver.plant = s.plant ∧ s.frameOver.clock = s.clock ∧ s.frameOver.share = s.share ∧
    s.frameOver.store = s.store ∧ s.frameOver.mirror = s.mirror ∧ s.frameOver.readout = s.readout ∧
    s.frameOver.ctrl = s.ctrl ∧ s.frameOver.freeCount = s.freeCount ∧ s.frameOver.pending = s.pending := by
  simp [State.frameOver]

@[simp] theorem frameOver_link (s : State) :
    s.frameOver.link = { s.link with receiver := .afterFrame, characters := [] } := rfl

@[simp] theorem frameOver_views (s : State) :
    s.frameOver.station = s.ctrl.station ∧ s.frameOver.config? = s.config? ∧ s.frameOver.config = s.config ∧
    s.frameOver.stackGroup = s.stackGroup ∧ s.frameOver.timed = s.timed ∧ s.frameOver.now = s.link.deadlineTimer :=
  ⟨rfl, rfl, rfl, rfl, rfl, rfl⟩

/-- A receiver that would assemble a frame hands a whole frame to its checks. -/
theorem wholeFrame_hearing {s : State} (h : s.hearing) (f : State → State) : wholeFrame f s = f s.frameOver := by
  obtain ⟨h1, h2⟩ := h
  unfold wholeFrame
  rcases h2 with h2 | h2 <;> simp [h1, h2]

/-- A receiver that waits for idle takes no frame. -/
theorem wholeFrame_waitIdle {s : State} (h1 : s.link.attempt = none) (h2 : s.link.receiver = .waitIdle) (f : State → State) :
    wholeFrame f s = s := by
  simp [wholeFrame, h1, h2]

/-- The kind of a kind's code. -/
@[simp] theorem frameKindOf_code (k : FrameKind) : frameKindOf (BitVec.ofNat 8 k.code).toNat = some k := by
  cases k <;> rfl

/-- A frame that the station receives is handed to its owner, but a broadcast in FAILED (R84 to R87). -/
theorem receiveKind_receives {s : State} {k : FrameKind} {sender target : Byte} {payload : List Byte}
    (h : s.receives k sender target payload) (hf : s.ctrl.state = .failed → k.frameClass ≠ .broadcast)
    (owner : State → State) : receiveKind k sender target payload owner s = owner s.frameOver := by
  unfold receiveKind receiveFrame
  rw [wholeFrame_hearing h.hears]
  unfold checkFrame
  rw [frameKindOf_code]
  have hf' : ¬(s.ctrl.state = .failed ∧ k.frameClass = .broadcast) := fun x => hf x.1 x.2
  simp [h.allowed, h.foreign, h.accepted]
  exact fun a b => absurd ⟨a, b⟩ hf'

/-- A served request reaches what serves it (R87, R167). -/
theorem receiveRequest_serving {s : State} {k : FrameKind} {sender target : Byte} {payload : List Byte}
    (h : s.receives k sender target payload) (hs : s.serving) (serve : State → State) :
    receiveRequest k sender target payload serve s = serve s.frameOver := by
  unfold receiveRequest
  rw [receiveKind_receives h (by rcases hs with hs | hs | hs <;> simp [hs])]
  unfold gate
  rcases hs with hs | hs | hs <;> simp [hs, stateAnswer]

@[simp] theorem be_one (n : Nat) : be 1 n = [BitVec.ofNat 8 n] := by simp [be]

/-- Nothing but the queue and the result misses changes when an entry joins. -/
theorem joinQueue_link (e : TxEntry) (s : State) :
    (joinQueue e s).link = { s.link with queue := (joinQueue e s).link.queue, resultMisses := (joinQueue e s).link.resultMisses } := by
  unfold joinQueue
  dsimp only
  (repeat' split) <;> simp

@[simp] theorem joinQueue_now (e : TxEntry) (s : State) : (joinQueue e s).link.deadlineTimer = s.link.deadlineTimer := by
  rw [joinQueue_link]

/-- A queue with room keeps what the entry that joins does not replace, and the entry stands at its back. -/
theorem joinQueue_room (e : TxEntry) (s : State) (h : s.link.queue.length < 8) :
    (joinQueue e s).link = { s.link with queue := s.link.queue.filter (fun o => o.sending || !e.replaces o) ++ [e] } := by
  unfold joinQueue
  dsimp only
  split
  · rfl
  · rename_i hlen
    have hk := List.length_filter_le (fun o => o.sending || !e.replaces o) s.link.queue
    rw [List.filter_eq_self.mpr (List.length_filter_eq_length_iff.mp (by omega))]
    rfl

/-- A reply offered in time to a queue with room (R94, R168). -/
theorem offerReply_replies (k : FrameKind) (terminal taken : Nat) (payload : List Byte) (s : State)
    (hk : deadlineAfter k = 2000000) (hc : k.frameClass = .reply) (h : s.link.queue.length < 8)
    (hd : s.link.deadlineTimer ≤ taken + 2000000) :
    (offerReply k terminal taken payload s).replies s.link k terminal taken payload := by
  unfold offerReply State.replies
  rw [hk, if_pos (show s.now ≤ taken + 2000000 from hd), joinQueue_room _ _ h]
  simp [TxEntry.replaces, hc, State.now]

/-- The ANSWER to a request taken now, offered to a queue with room (R168). -/
theorem offerAnswer_answers (request : FrameKind) (terminal : Nat) (code : AnswerCode) (s : State)
    (h : s.link.queue.length < 8) :
    (offerAnswer request terminal s.now code s).answers s.link request terminal code := by
  simpa [State.answers, State.now, offerAnswer] using offerReply_replies .answer terminal s.now
    (be 1 request.code ++ be 1 code.code) s rfl rfl h (by simp [State.now])

end Sys2Proof.Laws
end

