-- ==== Sys2Proof/Laws/Commands.lean ====
section
/-! SUPPORT. What the commands come to, for proofs over all of them: a frame either touches the receiver alone or reaches its
owner, a request is answered by the gate or served, bytes on the analyser line touch the intake unit alone, and the programmer's
beginning of work leaves the die. -/

namespace Sys2Proof.Laws

open Sys2Proof.Machine

/-- A link block that differs from another in the receiver, the characters in assembly and the counts of reception alone. -/
def receptionOnly (l m : Link) : Prop :=
  m.queue = l.queue ∧ m.attempt = l.attempt ∧ m.deadlineTimer = l.deadlineTimer ∧ m.linkFault = l.linkFault ∧
    m.transmitErrors = l.transmitErrors ∧ m.resultMisses = l.resultMisses ∧ m.expiredFrames = l.expiredFrames

theorem receptionOnly_refl (l : Link) : receptionOnly l l := ⟨rfl, rfl, rfl, rfl, rfl, rfl, rfl⟩

/-- A whole frame changes the receiver's part alone, or its checks are made with the receiver after the frame. -/
theorem wholeFrame_cases (checked : State → State) (s : State) :
    (∃ l, wholeFrame checked s = s.setLink l ∧ receptionOnly s.link l) ∨
      (wholeFrame checked s = checked s.frameOver ∧ s.hearing) := by
  unfold wholeFrame
  split
  · exact .inl ⟨s.link, rfl, receptionOnly_refl _⟩
  · exact .inl ⟨s.link, rfl, receptionOnly_refl _⟩
  · exact .inl ⟨_, rfl, rfl, rfl, rfl, rfl, rfl, rfl, rfl⟩
  · exact .inr ⟨rfl, ‹_›, .inl ‹_›⟩
  · exact .inr ⟨rfl, ‹_›, .inr ‹_›⟩

/-- A complete frame changes the receiver's part alone, or reaches its owner (R84 to R87). -/
theorem receiveFrame_cases (kind sender target : Byte) (payload : List Byte) (owner : State → State) (s : State) :
    (∃ l, receiveFrame kind sender target payload owner s = s.setLink l ∧ receptionOnly s.link l) ∨
      (receiveFrame kind sender target payload owner s = owner s.frameOver ∧ s.hearing ∧
        ∃ k, frameKindOf kind.toNat = some k ∧ s.receives k sender target payload ∧
          ¬(s.ctrl.state = .failed ∧ k.frameClass = .broadcast)) := by
  unfold receiveFrame
  rcases wholeFrame_cases (checkFrame kind sender target payload owner) s with h | ⟨h, hear⟩
  · exact .inl h
  · rw [h]
    unfold checkFrame
    split
    · exact .inl ⟨_, rfl, rfl, rfl, rfl, rfl, rfl, rfl, rfl⟩
    · rename_i k hk
      split
      · exact .inl ⟨_, rfl, rfl, rfl, rfl, rfl, rfl, rfl, rfl⟩
      · split
        · exact .inl ⟨_, rfl, rfl, rfl, rfl, rfl, rfl, rfl, rfl⟩
        · split
          · exact .inl ⟨_, rfl, rfl, rfl, rfl, rfl, rfl, rfl, rfl⟩
          · split
            · exact .inl ⟨_, rfl, rfl, rfl, rfl, rfl, rfl, rfl, rfl⟩
            · rename_i h1 h2 h3 h4
              refine .inr ⟨rfl, hear, k, hk, ⟨hear, ?_, ?_, ?_⟩, ?_⟩
              · simpa using h1
              · simpa [State.station] using h2
              · simpa [State.station] using h3
              · simpa using h4

/-- A frame of a known kind. -/
theorem receiveKind_cases (k : FrameKind) (sender target : Byte) (payload : List Byte) (owner : State → State) (s : State) :
    (∃ l, receiveKind k sender target payload owner s = s.setLink l ∧ receptionOnly s.link l) ∨
      (receiveKind k sender target payload owner s = owner s.frameOver ∧ s.receives k sender target payload ∧
        ¬(s.ctrl.state = .failed ∧ k.frameClass = .broadcast)) := by
  rcases receiveFrame_cases (BitVec.ofNat 8 k.code) sender target payload owner s with h | ⟨h, -, k', hk, hr, hf⟩
  · exact .inl h
  · rw [frameKindOf_code] at hk
    cases hk
    exact .inr ⟨h, hr, hf⟩

/-- A request changes the receiver's part alone, is answered by its station state, or is served (R87, R167). -/
theorem receiveRequest_cases (k : FrameKind) (sender target : Byte) (payload : List Byte) (serve : State → State) (s : State) :
    (∃ l, receiveRequest k sender target payload serve s = s.setLink l ∧ receptionOnly s.link l) ∨
      (s.receives k sender target payload ∧
        ((∃ code, stateAnswer k s.ctrl.state = some code ∧
            receiveRequest k sender target payload serve s =
              offerAnswer k sender.toNat s.link.deadlineTimer code s.frameOver) ∨
          (stateAnswer k s.ctrl.state = none ∧ receiveRequest k sender target payload serve s = serve s.frameOver))) := by
  unfold receiveRequest
  rcases receiveKind_cases k sender target payload (gate k sender.toNat serve) s with h | ⟨h, hr, -⟩
  · exact .inl h
  · refine .inr ⟨hr, ?_⟩
    rw [h]
    unfold gate
    split
    · exact .inl ⟨_, by simpa using ‹_›, rfl⟩
    · exact .inr ⟨by simpa using ‹_›, rfl⟩

/-- Bytes on the analyser line touch the intake unit alone. -/
theorem foldl_receiveAnalyserByte (bytes : List Byte) (s : State) :
    bytes.foldl receiveAnalyserByte s = s.setIntake (bytes.foldl receiveAnalyserByte s).intake := by
  induction bytes generalizing s with
  | nil => rfl
  | cons b rest ih =>
    rw [List.foldl_cons, ih]
    apply state_ext <;> simp [State.setIntake]

/-- The programmer's beginning of work leaves the die. -/
@[simp] theorem examineWork_dieKept (fuel : Nat) (s : State) : (examineWork fuel s).store.die = s.store.die := by
  induction fuel generalizing s with
  | zero => rfl
  | succ n ih =>
    unfold examineWork
    split
    · rfl
    · dsimp only
      split
      · simp
      · rw [ih]
        simp

@[simp] theorem startWork_dieKept (s : State) : (startWork s).store.die = s.store.die := by
  unfold startWork
  split <;> simp

/-- What an attempt to begin work leaves unchanged. -/
@[simp] theorem startWork_frame (s : State) :
    (startWork s).intake = s.intake ∧ (startWork s).norm = s.norm ∧ (startWork s).period = s.period ∧
    (startWork s).plant = s.plant ∧ (startWork s).clock = s.clock ∧ (startWork s).share = s.share ∧
    (startWork s).link = s.link ∧ (startWork s).readout = s.readout ∧ (startWork s).ctrl = s.ctrl ∧
    (startWork s).freeCount = s.freeCount ∧ (startWork s).pending = s.pending := by
  unfold startWork
  split <;> simp

end Sys2Proof.Laws
end

