-- ==== Sys2Proof/Laws/ControlFields.lean ====
section
/-! SUPPORT. The fields of the station controller that the operations on it leave alone. -/

namespace Sys2Proof.Laws

open Sys2Proof.Machine

@[simp] theorem enterState_ctrlFields (st : StationState) (s : State) :
    (enterState st s).ctrl.station = s.ctrl.station ∧ (enterState st s).ctrl.inForce = s.ctrl.inForce := by
  unfold enterState
  simp

@[simp] theorem acquireTime_ctrlFields (t : StationTime) (last : Option LastClosed) (s : State) :
    (acquireTime t last s).ctrl.station = s.ctrl.station ∧ (acquireTime t last s).ctrl.inForce = s.ctrl.inForce := by
  unfold acquireTime
  simp

@[simp] theorem takeMark_ctrlFields (i : Id) (s : State) :
    (takeMark i s).ctrl.station = s.ctrl.station ∧ (takeMark i s).ctrl.inForce = s.ctrl.inForce := by
  unfold takeMark
  (repeat' split) <;> simp

@[simp] theorem takeTime_ctrlFields (terminal : Nat) (f : TimeFields) (s : State) :
    (takeTime terminal f s).1.ctrl.station = s.ctrl.station ∧
    (takeTime terminal f s).1.ctrl.inForce = s.ctrl.inForce := by
  unfold takeTime
  (repeat' split) <;> simp

@[simp] theorem comeIntoForce_ctrlFields (f : InForce) (s : State) :
    (comeIntoForce f s).ctrl.station = s.ctrl.station := by
  unfold comeIntoForce
  simp

@[simp] theorem takeConfigure_ctrlFields (part : ConfigurePart) (s : State) :
    (takeConfigure part s).1.ctrl.station = s.ctrl.station ∧
    (takeConfigure part s).1.ctrl.inForce = s.ctrl.inForce := by
  unfold takeConfigure
  (repeat' split) <;> simp

@[simp] theorem beginStart_ctrlFields (terminal taken : Nat) (s : State) :
    (beginStart terminal taken s).ctrl.station = s.ctrl.station ∧
    (beginStart terminal taken s).ctrl.inForce = s.ctrl.inForce := by
  unfold beginStart
  simp

@[simp] theorem takeStart_ctrlFields (terminal taken : Nat) (s : State) :
    (takeStart terminal taken s).1.ctrl.station = s.ctrl.station ∧
    (takeStart terminal taken s).1.ctrl.inForce = s.ctrl.inForce := by
  unfold takeStart
  (repeat' split) <;> simp

@[simp] theorem answerStart_ctrlFields (code : AnswerCode) (s : State) :
    (answerStart code s).ctrl.station = s.ctrl.station ∧ (answerStart code s).ctrl.inForce = s.ctrl.inForce := by
  unfold answerStart
  (repeat' split) <;> simp

@[simp] theorem enterFromSetup_ctrlFields (f : InForce) (terminal : Nat) (s : State) :
    (enterFromSetup f terminal s).ctrl.station = s.ctrl.station ∧
    (enterFromSetup f terminal s).ctrl.inForce = s.ctrl.inForce := by
  unfold enterFromSetup
  (repeat' split) <;> simp

@[simp] theorem carryOutStart_ctrlFields (w : ConfigWrite) (s : State) :
    (carryOutStart w s).ctrl.station = s.ctrl.station := by
  unfold carryOutStart
  (repeat' split) <;> simp

@[simp] theorem refuseStart_ctrlFields (s : State) :
    (refuseStart s).ctrl.station = s.ctrl.station ∧ (refuseStart s).ctrl.inForce = s.ctrl.inForce := by
  unfold refuseStart
  simp

@[simp] theorem configComplete_ctrlFields (slot : Nat) (pass : Bool) (s : State) :
    (configComplete slot pass s).ctrl.station = s.ctrl.station := by
  unfold configComplete
  (repeat' split) <;> simp

@[simp] theorem configEraseComplete_ctrlFields (pass : Bool) (s : State) :
    (configEraseComplete pass s).ctrl.station = s.ctrl.station ∧
    (configEraseComplete pass s).ctrl.inForce = s.ctrl.inForce := by
  unfold configEraseComplete
  (repeat' split) <;> simp

@[simp] theorem carryOutRestart_ctrlFields (terminal : Nat) (s : State) :
    (carryOutRestart terminal s).ctrl.station = s.ctrl.station ∧
    (carryOutRestart terminal s).ctrl.inForce = s.ctrl.inForce := by
  unfold carryOutRestart
  simp

@[simp] theorem takeRestart_ctrlFields (terminal : Nat) (s : State) :
    (takeRestart terminal s).1.ctrl.station = s.ctrl.station ∧
    (takeRestart terminal s).1.ctrl.inForce = s.ctrl.inForce := by
  unfold takeRestart
  (repeat' split) <;> simp

@[simp] theorem handOverController_ctrlFields (s : State) :
    (handOverController s).ctrl.station = s.ctrl.station := by
  unfold handOverController
  (repeat' split) <;> simp

@[simp] theorem scanEnds_ctrlFields (failedErases failedHeaders : List Nat) (s : State) :
    (scanEnds failedErases failedHeaders s).ctrl.station = s.ctrl.station := by
  unfold scanEnds
  (repeat' split) <;> simp

@[simp] theorem takeConfigureBytes_ctrlFields (payload : List Byte) (s : State) :
    (takeConfigureBytes payload s).1.ctrl.station = s.ctrl.station ∧
    (takeConfigureBytes payload s).1.ctrl.inForce = s.ctrl.inForce := by
  unfold takeConfigureBytes
  (repeat' split) <;> simp

@[simp] theorem takeStartRequest_ctrlFields (terminal : Nat) (s : State) :
    (takeStartRequest terminal s).ctrl.station = s.ctrl.station ∧
    (takeStartRequest terminal s).ctrl.inForce = s.ctrl.inForce := by
  unfold takeStartRequest
  have h := takeStart_ctrlFields terminal s.now s
  generalize takeStart terminal s.now s = r at h ⊢
  obtain ⟨s', _ | c⟩ := r <;> simp_all

@[simp] theorem eraseComplete_ctrlFields (pass : Bool) (s : State) :
    (eraseComplete pass s).ctrl.station = s.ctrl.station ∧ (eraseComplete pass s).ctrl.inForce = s.ctrl.inForce := by
  unfold eraseComplete
  (repeat' split) <;> simp

end Sys2Proof.Laws
end

