-- ==== Sys2Proof/Laws/Die.lean ====
section
/-! SUPPORT. The laws of the flash die: what is read after a write, an erase or a cut-off, and that every operation of the die
keeps its canonical form. -/

namespace Sys2Proof.Laws

open Sys2Proof.Machine

variable {die : List (Nat × SlotContent)}

/-- The canonical form as strictly rising addresses. -/
theorem dieSorted_iff (die : List (Nat × SlotContent)) : dieSorted die = true ↔ die.Pairwise (fun a b => a.1 < b.1) := by
  induction die with
  | nil => simp [dieSorted]
  | cons a rest ih =>
    cases rest with
    | nil => simp [dieSorted]
    | cons b rest =>
      simp only [dieSorted, Bool.and_eq_true, decide_eq_true_eq, ih, List.pairwise_cons]
      constructor
      · rintro ⟨hab, hb, hr⟩
        refine ⟨?_, hb, hr⟩
        intro c hc
        rcases List.mem_cons.1 hc with rfl | hc
        · exact hab
        · exact hab.trans (hb c hc)
      · rintro ⟨ha, hb, hr⟩
        exact ⟨ha b (by simp), hb, hr⟩

/-- An address listed after a write is the written one or was listed before. -/
theorem mem_dieWrite {a : Nat} {c : SlotContent} {e : Nat × SlotContent} (h : e ∈ dieWrite die a c) : e.1 = a ∨ e ∈ die := by
  induction die with
  | nil => simp_all [dieWrite]
  | cons d rest ih =>
    simp only [dieWrite] at h
    split at h
    · rcases List.mem_cons.1 h with rfl | h
      · exact .inl rfl
      · exact .inr h
    · split at h
      · rcases List.mem_cons.1 h with rfl | h
        · exact .inl rfl
        · exact .inr (List.mem_cons_of_mem _ h)
      · rcases List.mem_cons.1 h with rfl | h
        · exact .inr (by simp)
        · exact (ih h).imp id (List.mem_cons_of_mem _)

/-- A write keeps the canonical form. -/
theorem dieSorted_dieWrite (h : dieSorted die = true) (a : Nat) (c : SlotContent) : dieSorted (dieWrite die a c) = true := by
  rw [dieSorted_iff] at *
  induction die with
  | nil => simp [dieWrite]
  | cons d rest ih =>
    rw [List.pairwise_cons] at h
    simp only [dieWrite]
    split
    · rename_i hlt
      refine List.pairwise_cons.2 ⟨?_, List.pairwise_cons.2 h⟩
      intro e he
      rcases List.mem_cons.1 he with rfl | he
      · exact hlt
      · exact hlt.trans (h.1 e he)
    · split
      · rename_i heq
        exact List.pairwise_cons.2 ⟨fun e he => heq ▸ h.1 e he, h.2⟩
      · refine List.pairwise_cons.2 ⟨?_, ih h.2⟩
        intro e he
        rcases mem_dieWrite he with rfl | he
        · show d.1 < e.1
          omega
        · exact h.1 e he

/-- Dropping entries keeps the canonical form. -/
theorem dieSorted_filter (h : dieSorted die = true) (p : Nat × SlotContent → Bool) : dieSorted (die.filter p) = true := by
  rw [dieSorted_iff] at *
  exact h.filter p

/-- An erase keeps the canonical form. -/
theorem dieSorted_dieErase (h : dieSorted die = true) (b : Nat) : dieSorted (dieErase die b) = true :=
  dieSorted_filter h _

/-- A failed erase keeps the canonical form. -/
theorem dieSorted_dieScramble (free b n : Nat) (h : dieSorted die = true) : dieSorted (dieScramble free b n die) = true := by
  induction n generalizing die with
  | zero => exact h
  | succ n ih =>
    simp only [dieScramble]
    apply ih
    split
    · exact dieSorted_filter h _
    · exact dieSorted_dieWrite h _ _
    · exact h

/-- A failed erase keeps the canonical form. -/
theorem dieSorted_dieFailedErase (free b : Nat) (h : dieSorted die = true) : dieSorted (dieFailedErase free die b) = true :=
  dieSorted_dieScramble free b 1024 h

/-- A block made VOID keeps the canonical form. -/
theorem dieSorted_dieVoid (b n : Nat) (h : dieSorted die = true) : dieSorted (dieVoid b n die) = true := by
  induction n generalizing die with
  | zero => exact h
  | succ n ih => exact ih (dieSorted_dieWrite h _ _)

/-- A cut-off operation keeps the canonical form. -/
theorem dieSorted_cutOff (op : Option ProgOp) (h : dieSorted die = true) : dieSorted (cutOff op die) = true := by
  cases op with
  | none => exact h
  | some op =>
    cases op <;> simp only [cutOff]
    case erase b p => exact dieSorted_dieVoid b 1024 h
    all_goals exact dieSorted_dieWrite h _ _

/-- The die after reset is in canonical form. -/
theorem reset_dieWf : State.reset.dieWf = true := by
  decide +kernel

/-- An address that no entry lists is erased. -/
theorem dieRead_eq_none {a : Nat} (h : ∀ e ∈ die, e.1 ≠ a) : dieRead die a = none := by
  induction die with
  | nil => rfl
  | cons d rest ih =>
    simp only [dieRead]
    rw [if_neg (h d (by simp))]
    exact ih (fun e he => h e (by simp [he]))

/-- A read after a write to the same slot gives what was written. -/
@[simp] theorem dieRead_dieWrite_self (a : Nat) (c : SlotContent) : dieRead (dieWrite die a c) a = some c := by
  induction die with
  | nil => simp [dieWrite, dieRead]
  | cons d rest ih =>
    simp only [dieWrite]
    split
    · simp [dieRead]
    · split
      · simp [dieRead]
      · rename_i h1 h2
        simp only [dieRead]
        rw [if_neg (by omega)]
        exact ih

/-- A write leaves every other slot alone. -/
theorem dieRead_dieWrite_of_ne {a x : Nat} (c : SlotContent) (h : x ≠ a) : dieRead (dieWrite die a c) x = dieRead die x := by
  induction die with
  | nil => simp [dieWrite, dieRead, Ne.symm h]
  | cons d rest ih =>
    simp only [dieWrite]
    split
    · simp [dieRead, Ne.symm h]
    · split
      · rename_i h1 h2
        subst h2
        simp [dieRead, Ne.symm h]
      · simp only [dieRead]
        split
        · rfl
        · exact ih

/-- Dropping the entries of addresses other than this one leaves its slot alone. -/
theorem dieRead_filter {p : Nat × SlotContent → Bool} {x : Nat} (h : ∀ c, p (x, c) = true) :
    dieRead (die.filter p) x = dieRead die x := by
  induction die with
  | nil => rfl
  | cons d rest ih =>
    obtain ⟨a, c⟩ := d
    by_cases hx : a = x
    · subst hx
      simp [h, dieRead]
    · by_cases hp : p (a, c) = true
      · simp [hp, dieRead, hx, ih]
      · simp [hp, dieRead, hx, ih]

/-- After an erase every slot of the block is erased. -/
theorem dieRead_dieErase {b x : Nat} (h : x / 1024 = b) : dieRead (dieErase die b) x = none := by
  apply dieRead_eq_none
  intro e he
  have := (List.mem_filter.1 he).2
  rintro rfl
  simp_all

/-- An erase leaves every slot of another block alone. -/
theorem dieRead_dieErase_of_ne {b x : Nat} (h : x / 1024 ≠ b) : dieRead (dieErase die b) x = dieRead die x :=
  dieRead_filter (by simp [h])

/-- The address of a slot lies in its block. -/
@[simp] theorem slotAddress_div {b n : Nat} (h : n < 1024) : slotAddress b n / 1024 = b := by
  unfold slotAddress
  omega

/-- A failed erase leaves every slot of another block alone. -/
theorem dieRead_dieScramble_of_ne (free b n x : Nat) (hn : n ≤ 1024) (h : x / 1024 ≠ b) :
    dieRead (dieScramble free b n die) x = dieRead die x := by
  induction n generalizing die with
  | zero => rfl
  | succ n ih =>
    have hx : x ≠ slotAddress b n := by
      rintro rfl
      exact h (slotAddress_div (by omega))
    simp only [dieScramble]
    rw [ih (by omega)]
    split
    · exact dieRead_filter (by simp [hx])
    · exact dieRead_dieWrite_of_ne _ hx
    · rfl

/-- Making a block VOID leaves every slot of another block alone. -/
theorem dieRead_dieVoid_of_ne (b n x : Nat) (hn : n ≤ 1024) (h : x / 1024 ≠ b) :
    dieRead (dieVoid b n die) x = dieRead die x := by
  induction n generalizing die with
  | zero => rfl
  | succ n ih =>
    have hx : x ≠ slotAddress b n := by
      rintro rfl
      exact h (slotAddress_div (by omega))
    simp only [dieVoid]
    rw [ih (by omega)]
    exact dieRead_dieWrite_of_ne _ hx

/-! The same laws for the operations on the state. -/

@[simp] theorem writeSlot_die (b n : Nat) (c : SlotContent) (s : State) :
    (writeSlot b n c s).store.die = dieWrite s.store.die (slotAddress b n) c := rfl

@[simp] theorem eraseSlots_die (b : Nat) (s : State) : (eraseSlots b s).store.die = dieErase s.store.die b := rfl

@[simp] theorem scrambleSlots_die (b : Nat) (s : State) :
    (scrambleSlots b s).store.die = dieFailedErase s.freeCount s.store.die b := by
  simp [scrambleSlots]

end Sys2Proof.Laws
end

