-- ==== Sys2Proof/Laws/PeriodFields.lean ====
section
/-! SUPPORT. The fields of the period unit that the operations on it leave alone. -/

namespace Sys2Proof.Laws

open Sys2Proof.Machine

@[simp] theorem reportToSummary_periodFields (f : YearSummary → YearSummary) (s : State) :
    (reportToSummary f s).period.recording = s.period.recording ∧
    (reportToSummary f s).period.lastOwn = s.period.lastOwn ∧
    (reportToSummary f s).period.openInterval = s.period.openInterval ∧
    (reportToSummary f s).period.openDay = s.period.openDay ∧
    (reportToSummary f s).period.summaryYear = s.period.summaryYear := by
  unfold reportToSummary
  (repeat' split) <;> simp

@[simp] theorem enterCutoff_periodFields (cause : CutoffCause) (s : State) :
    (enterCutoff cause s).period.recording = s.period.recording ∧
    (enterCutoff cause s).period.lastOwn = s.period.lastOwn ∧
    (enterCutoff cause s).period.openInterval = s.period.openInterval ∧
    (enterCutoff cause s).period.openDay = s.period.openDay ∧
    (enterCutoff cause s).period.summaryYear = s.period.summaryYear := by
  unfold enterCutoff
  simp

@[simp] theorem cutoffFromAbnormal_periodFields (cause : CutoffCause) (ending : Cause) (s : State) :
    (cutoffFromAbnormal cause ending s).period.recording = s.period.recording ∧
    (cutoffFromAbnormal cause ending s).period.lastOwn = s.period.lastOwn ∧
    (cutoffFromAbnormal cause ending s).period.openInterval = s.period.openInterval ∧
    (cutoffFromAbnormal cause ending s).period.openDay = s.period.openDay ∧
    (cutoffFromAbnormal cause ending s).period.summaryYear = s.period.summaryYear := by
  unfold cutoffFromAbnormal
  simp

@[simp] theorem checkLimits_periodFields (s : State) :
    (checkLimits s).period.recording = s.period.recording ∧ (checkLimits s).period.lastOwn = s.period.lastOwn ∧
    (checkLimits s).period.openInterval = s.period.openInterval ∧ (checkLimits s).period.openDay = s.period.openDay ∧
    (checkLimits s).period.summaryYear = s.period.summaryYear := by
  unfold checkLimits
  (repeat' split) <;> simp

@[simp] theorem enterAbnormal_periodFields (cause : Cause) (carried : Nat) (s : State) :
    (enterAbnormal cause carried s).period.recording = s.period.recording ∧
    (enterAbnormal cause carried s).period.lastOwn = s.period.lastOwn ∧
    (enterAbnormal cause carried s).period.openInterval = s.period.openInterval ∧
    (enterAbnormal cause carried s).period.openDay = s.period.openDay ∧
    (enterAbnormal cause carried s).period.summaryYear = s.period.summaryYear := by
  unfold enterAbnormal
  simp

@[simp] theorem edgeMachine_periodFields (line : InputLine) (active : Bool) (s : State) :
    (edgeMachine line active s).period.recording = s.period.recording ∧
    (edgeMachine line active s).period.lastOwn = s.period.lastOwn ∧
    (edgeMachine line active s).period.openInterval = s.period.openInterval ∧
    (edgeMachine line active s).period.openDay = s.period.openDay ∧
    (edgeMachine line active s).period.summaryYear = s.period.summaryYear := by
  unfold edgeMachine
  (repeat' split) <;> simp

@[simp] theorem takeEdge_periodFields (line : InputLine) (active : Bool) (s : State) :
    (takeEdge line active s).period.recording = s.period.recording ∧
    (takeEdge line active s).period.lastOwn = s.period.lastOwn ∧
    (takeEdge line active s).period.openInterval = s.period.openInterval ∧
    (takeEdge line active s).period.openDay = s.period.openDay ∧
    (takeEdge line active s).period.summaryYear = s.period.summaryYear := by
  unfold takeEdge
  dsimp only
  (repeat' split) <;> simp

@[simp] theorem countMinute_periodFields (s : State) :
    (countMinute s).period.recording = s.period.recording ∧ (countMinute s).period.lastOwn = s.period.lastOwn ∧
    (countMinute s).period.openInterval = s.period.openInterval ∧ (countMinute s).period.openDay = s.period.openDay ∧
    (countMinute s).period.summaryYear = s.period.summaryYear := by
  unfold countMinute
  dsimp only
  (repeat' split) <;> simp

@[simp] theorem plantMinuteClose_periodFields (year : Nat) (s : State) :
    (plantMinuteClose year s).period.recording = s.period.recording ∧
    (plantMinuteClose year s).period.lastOwn = s.period.lastOwn ∧
    (plantMinuteClose year s).period.openInterval = s.period.openInterval ∧
    (plantMinuteClose year s).period.openDay = s.period.openDay ∧
    (plantMinuteClose year s).period.summaryYear = s.period.summaryYear := by
  unfold plantMinuteClose
  simp

@[simp] theorem untimedExpiry_periodFields (s : State) :
    (untimedExpiry s).period.recording = s.period.recording ∧ (untimedExpiry s).period.lastOwn = s.period.lastOwn ∧
    (untimedExpiry s).period.openInterval = s.period.openInterval ∧
    (untimedExpiry s).period.openDay = s.period.openDay ∧
    (untimedExpiry s).period.summaryYear = s.period.summaryYear := by
  unfold untimedExpiry
  simp

@[simp] theorem stopUntimedTimer_periodFields (year : Nat) (s : State) :
    (stopUntimedTimer year s).period.recording = s.period.recording ∧
    (stopUntimedTimer year s).period.lastOwn = s.period.lastOwn ∧
    (stopUntimedTimer year s).period.openInterval = s.period.openInterval ∧
    (stopUntimedTimer year s).period.openDay = s.period.openDay ∧
    (stopUntimedTimer year s).period.summaryYear = s.period.summaryYear := by
  unfold stopUntimedTimer
  (repeat' split) <;> simp

@[simp] theorem takeMinute_periodFields (r : MinuteResult) (s : State) :
    (takeMinute r s).period.recording = s.period.recording ∧ (takeMinute r s).period.lastOwn = s.period.lastOwn ∧
    (takeMinute r s).period.openDay = s.period.openDay ∧ (takeMinute r s).period.summaryYear = s.period.summaryYear ∧
    (takeMinute r s).period.summary = s.period.summary := by
  unfold takeMinute
  (repeat' split) <;> simp

@[simp] theorem setSummary_periodFields (y : YearSummary) (s : State) :
    (setSummary y s).period.recording = s.period.recording ∧ (setSummary y s).period.lastOwn = s.period.lastOwn ∧
    (setSummary y s).period.openInterval = s.period.openInterval ∧
    (setSummary y s).period.openDay = s.period.openDay ∧
    (setSummary y s).period.summaryYear = s.period.summaryYear := by
  unfold setSummary
  simp

@[simp] theorem restartSummary_periodFields (year : Nat) (s : State) :
    (restartSummary year s).period.recording = s.period.recording ∧
    (restartSummary year s).period.lastOwn = s.period.lastOwn ∧
    (restartSummary year s).period.openInterval = s.period.openInterval ∧
    (restartSummary year s).period.openDay = s.period.openDay := by
  unfold restartSummary
  simp

@[simp] theorem yearClose_periodFields (s : State) :
    (yearClose s).period.recording = s.period.recording ∧ (yearClose s).period.lastOwn = s.period.lastOwn ∧
    (yearClose s).period.openInterval = s.period.openInterval ∧ (yearClose s).period.openDay = s.period.openDay := by
  unfold yearClose
  (repeat' split) <;> simp

@[simp] theorem dayClose_periodFields (s : State) :
    (dayClose s).period.recording = s.period.recording ∧ (dayClose s).period.lastOwn = s.period.lastOwn ∧
    (dayClose s).period.openInterval = s.period.openInterval := by
  unfold dayClose
  (repeat' split) <;> simp

@[simp] theorem formDay_periodFields (i : Id) (s : State) :
    (formDay i s).period.recording = s.period.recording ∧ (formDay i s).period.lastOwn = s.period.lastOwn ∧
    (formDay i s).period.openInterval = s.period.openInterval ∧
    (formDay i s).period.summaryYear = s.period.summaryYear ∧ (formDay i s).period.summary = s.period.summary := by
  unfold formDay
  (repeat' split) <;> simp

@[simp] theorem openInterval_periodFields (i : Id) (isPartial : Bool) (s : State) :
    (openInterval i isPartial s).period.lastOwn = s.period.lastOwn ∧
    (openInterval i isPartial s).period.summaryYear = s.period.summaryYear ∧
    (openInterval i isPartial s).period.summary = s.period.summary := by
  unfold openInterval
  simp

@[simp] theorem countGap_periodFields (l x : Id) (s : State) :
    (countGap l x s).period.recording = s.period.recording ∧ (countGap l x s).period.lastOwn = s.period.lastOwn ∧
    (countGap l x s).period.openInterval = s.period.openInterval ∧
    (countGap l x s).period.openDay = s.period.openDay ∧
    (countGap l x s).period.summaryYear = s.period.summaryYear := by
  unfold countGap
  (repeat' split) <;> simp

@[simp] theorem closeLateDay_periodFields (x : Id) (s : State) :
    (closeLateDay x s).1.period.recording = s.period.recording ∧
    (closeLateDay x s).1.period.lastOwn = s.period.lastOwn ∧
    (closeLateDay x s).1.period.openInterval = s.period.openInterval := by
  unfold closeLateDay
  dsimp only
  (repeat' split) <;> simp

@[simp] theorem lateYear_periodFields (x : Id) (entered : Bool) (s : State) :
    (lateYear x entered s).period.recording = s.period.recording ∧
    (lateYear x entered s).period.lastOwn = s.period.lastOwn ∧
    (lateYear x entered s).period.openInterval = s.period.openInterval ∧
    (lateYear x entered s).period.openDay = s.period.openDay := by
  unfold lateYear
  (repeat' split) <;> simp

@[simp] theorem firstSummaryYear_periodFields (x : Id) (s : State) :
    (firstSummaryYear x s).period.recording = s.period.recording ∧
    (firstSummaryYear x s).period.lastOwn = s.period.lastOwn ∧
    (firstSummaryYear x s).period.openInterval = s.period.openInterval ∧
    (firstSummaryYear x s).period.openDay = s.period.openDay := by
  unfold firstSummaryYear
  (repeat' split) <;> simp

@[simp] theorem openFirst_periodFields (x : Id) (isPartial : Bool) (s : State) :
    (openFirst x isPartial s).period.lastOwn = s.period.lastOwn := by
  unfold openFirst
  dsimp only
  (repeat' split) <;> simp

@[simp] theorem enterRecordingByTime_periodFields (t : StationTime) (s : State) :
    (enterRecordingByTime t s).period.lastOwn = s.period.lastOwn := by
  unfold enterRecordingByTime
  (repeat' split) <;> simp

@[simp] theorem closeMeasurement_periodFields (m : MinuteId) (s : State) :
    (closeMeasurement m s).period.recording = s.period.recording ∧
    (closeMeasurement m s).period.lastOwn = s.period.lastOwn ∧
    (closeMeasurement m s).period.openDay = s.period.openDay ∧
    (closeMeasurement m s).period.summaryYear = s.period.summaryYear ∧
    (closeMeasurement m s).period.summary = s.period.summary := by
  unfold closeMeasurement
  (repeat' split) <;> simp

@[simp] theorem setTime_periodFields (t : StationTime) (last : Option LastClosed) (s : State) :
    (setTime t last s).period.recording = s.period.recording ∧ (setTime t last s).period.lastOwn = s.period.lastOwn ∧
    (setTime t last s).period.openInterval = s.period.openInterval ∧
    (setTime t last s).period.openDay = s.period.openDay ∧
    (setTime t last s).period.summaryYear = s.period.summaryYear := by
  unfold setTime
  simp

@[simp] theorem acquireTime_periodFields (t : StationTime) (last : Option LastClosed) (s : State) :
    (acquireTime t last s).period.lastOwn = s.period.lastOwn := by
  unfold acquireTime
  simp

@[simp] theorem enterFromSetup_periodFields (f : InForce) (terminal : Nat) (s : State) :
    (enterFromSetup f terminal s).period.lastOwn = s.period.lastOwn ∧
    (enterFromSetup f terminal s).period.openInterval = s.period.openInterval ∧
    (enterFromSetup f terminal s).period.openDay = s.period.openDay ∧
    (enterFromSetup f terminal s).period.summary = s.period.summary ∧
    (enterFromSetup f terminal s).period.summaryYear = s.period.summaryYear := by
  unfold enterFromSetup
  (repeat' split) <;> simp

@[simp] theorem carryOutStart_periodFields (w : ConfigWrite) (s : State) :
    (carryOutStart w s).period.lastOwn = s.period.lastOwn ∧
    (carryOutStart w s).period.openInterval = s.period.openInterval ∧
    (carryOutStart w s).period.openDay = s.period.openDay ∧ (carryOutStart w s).period.summary = s.period.summary ∧
    (carryOutStart w s).period.summaryYear = s.period.summaryYear := by
  unfold carryOutStart
  (repeat' split) <;> simp

@[simp] theorem configComplete_periodFields (slot : Nat) (pass : Bool) (s : State) :
    (configComplete slot pass s).period.lastOwn = s.period.lastOwn ∧
    (configComplete slot pass s).period.openInterval = s.period.openInterval ∧
    (configComplete slot pass s).period.openDay = s.period.openDay ∧
    (configComplete slot pass s).period.summary = s.period.summary ∧
    (configComplete slot pass s).period.summaryYear = s.period.summaryYear := by
  unfold configComplete
  (repeat' split) <;> simp

@[simp] theorem restoreLevels_periodFields (carried : Nat) (s : State) :
    (restoreLevels carried s).period.recording = s.period.recording ∧
    (restoreLevels carried s).period.lastOwn = s.period.lastOwn ∧
    (restoreLevels carried s).period.openInterval = s.period.openInterval ∧
    (restoreLevels carried s).period.openDay = s.period.openDay ∧
    (restoreLevels carried s).period.summaryYear = s.period.summaryYear := by
  unfold restoreLevels
  (repeat' split) <;> simp

@[simp] theorem handOverPlant_periodFields (own : List SlotImage) (s : State) :
    (handOverPlant own s).period.recording = s.period.recording ∧
    (handOverPlant own s).period.lastOwn = s.period.lastOwn ∧
    (handOverPlant own s).period.openInterval = s.period.openInterval ∧
    (handOverPlant own s).period.openDay = s.period.openDay ∧
    (handOverPlant own s).period.summaryYear = s.period.summaryYear := by
  unfold handOverPlant
  dsimp only
  (repeat' split) <;> simp

@[simp] theorem untimedEnds_periodFields (s : State) :
    (untimedEnds s).period.recording = s.period.recording ∧ (untimedEnds s).period.lastOwn = s.period.lastOwn ∧
    (untimedEnds s).period.openInterval = s.period.openInterval ∧ (untimedEnds s).period.openDay = s.period.openDay ∧
    (untimedEnds s).period.summaryYear = s.period.summaryYear := by
  unfold untimedEnds
  (repeat' split) <;> simp

end Sys2Proof.Laws
end

