-- ==== Sys2Proof/Laws/PlantFields.lean ====
section
/-! SUPPORT. The fields of the plant signal unit that the operations on it leave alone. -/

namespace Sys2Proof.Laws

open Sys2Proof.Machine

@[simp] theorem driveOutputs_plantFields (s : State) :
    (driveOutputs s).plant.fire = s.plant.fire ∧ (driveOutputs s).plant.feed = s.plant.feed ∧
    (driveOutputs s).plant.clean = s.plant.clean ∧ (driveOutputs s).plant.trip = s.plant.trip ∧
    (driveOutputs s).plant.operating = s.plant.operating ∧
    (driveOutputs s).plant.abnormalFlag = s.plant.abnormalFlag ∧
    (driveOutputs s).plant.closedOperating = s.plant.closedOperating ∧
    (driveOutputs s).plant.closedAbnormal = s.plant.closedAbnormal ∧
    (driveOutputs s).plant.machine = s.plant.machine ∧ (driveOutputs s).plant.continuous = s.plant.continuous ∧
    (driveOutputs s).plant.yearCount = s.plant.yearCount ∧ (driveOutputs s).plant.countYear = s.plant.countYear ∧
    (driveOutputs s).plant.untimed = s.plant.untimed ∧ (driveOutputs s).plant.recordLoss = s.plant.recordLoss := by
  unfold driveOutputs
  simp

@[simp] theorem setMachine_plantFields (m : AbnormalMachine) (s : State) :
    (setMachine m s).plant.fire = s.plant.fire ∧ (setMachine m s).plant.feed = s.plant.feed ∧
    (setMachine m s).plant.clean = s.plant.clean ∧ (setMachine m s).plant.trip = s.plant.trip ∧
    (setMachine m s).plant.operating = s.plant.operating ∧
    (setMachine m s).plant.abnormalFlag = s.plant.abnormalFlag ∧
    (setMachine m s).plant.closedOperating = s.plant.closedOperating ∧
    (setMachine m s).plant.closedAbnormal = s.plant.closedAbnormal ∧
    (setMachine m s).plant.continuous = s.plant.continuous ∧ (setMachine m s).plant.yearCount = s.plant.yearCount ∧
    (setMachine m s).plant.countYear = s.plant.countYear ∧ (setMachine m s).plant.untimed = s.plant.untimed ∧
    (setMachine m s).plant.recordLoss = s.plant.recordLoss := by
  unfold setMachine
  simp

@[simp] theorem enterState_plantFields (st : StationState) (s : State) :
    (enterState st s).plant.fire = s.plant.fire ∧ (enterState st s).plant.feed = s.plant.feed ∧
    (enterState st s).plant.clean = s.plant.clean ∧ (enterState st s).plant.trip = s.plant.trip ∧
    (enterState st s).plant.operating = s.plant.operating ∧
    (enterState st s).plant.abnormalFlag = s.plant.abnormalFlag ∧
    (enterState st s).plant.closedOperating = s.plant.closedOperating ∧
    (enterState st s).plant.closedAbnormal = s.plant.closedAbnormal ∧
    (enterState st s).plant.machine = s.plant.machine ∧ (enterState st s).plant.continuous = s.plant.continuous ∧
    (enterState st s).plant.yearCount = s.plant.yearCount ∧ (enterState st s).plant.countYear = s.plant.countYear ∧
    (enterState st s).plant.untimed = s.plant.untimed ∧ (enterState st s).plant.recordLoss = s.plant.recordLoss := by
  unfold enterState
  simp

@[simp] theorem setRecordLoss_plantFields (b : Bool) (s : State) :
    (setRecordLoss b s).plant.fire = s.plant.fire ∧ (setRecordLoss b s).plant.feed = s.plant.feed ∧
    (setRecordLoss b s).plant.clean = s.plant.clean ∧ (setRecordLoss b s).plant.trip = s.plant.trip ∧
    (setRecordLoss b s).plant.operating = s.plant.operating ∧
    (setRecordLoss b s).plant.abnormalFlag = s.plant.abnormalFlag ∧
    (setRecordLoss b s).plant.closedOperating = s.plant.closedOperating ∧
    (setRecordLoss b s).plant.closedAbnormal = s.plant.closedAbnormal ∧
    (setRecordLoss b s).plant.machine = s.plant.machine ∧ (setRecordLoss b s).plant.continuous = s.plant.continuous ∧
    (setRecordLoss b s).plant.yearCount = s.plant.yearCount ∧
    (setRecordLoss b s).plant.countYear = s.plant.countYear ∧
    (setRecordLoss b s).plant.untimed = s.plant.untimed := by
  unfold setRecordLoss
  simp

@[simp] theorem offerOwn_plantFields (r : SlotImage) (s : State) :
    (offerOwn r s).plant.fire = s.plant.fire ∧ (offerOwn r s).plant.feed = s.plant.feed ∧
    (offerOwn r s).plant.clean = s.plant.clean ∧ (offerOwn r s).plant.trip = s.plant.trip ∧
    (offerOwn r s).plant.operating = s.plant.operating ∧ (offerOwn r s).plant.abnormalFlag = s.plant.abnormalFlag ∧
    (offerOwn r s).plant.closedOperating = s.plant.closedOperating ∧
    (offerOwn r s).plant.closedAbnormal = s.plant.closedAbnormal ∧ (offerOwn r s).plant.machine = s.plant.machine ∧
    (offerOwn r s).plant.continuous = s.plant.continuous ∧ (offerOwn r s).plant.yearCount = s.plant.yearCount ∧
    (offerOwn r s).plant.countYear = s.plant.countYear ∧ (offerOwn r s).plant.untimed = s.plant.untimed := by
  unfold offerOwn
  (repeat' split) <;> simp

@[simp] theorem offerNotice_plantFields (code : NoticeCode) (params : List Byte) (s : State) :
    (offerNotice code params s).plant.fire = s.plant.fire ∧ (offerNotice code params s).plant.feed = s.plant.feed ∧
    (offerNotice code params s).plant.clean = s.plant.clean ∧ (offerNotice code params s).plant.trip = s.plant.trip ∧
    (offerNotice code params s).plant.operating = s.plant.operating ∧
    (offerNotice code params s).plant.abnormalFlag = s.plant.abnormalFlag ∧
    (offerNotice code params s).plant.closedOperating = s.plant.closedOperating ∧
    (offerNotice code params s).plant.closedAbnormal = s.plant.closedAbnormal ∧
    (offerNotice code params s).plant.machine = s.plant.machine ∧
    (offerNotice code params s).plant.continuous = s.plant.continuous ∧
    (offerNotice code params s).plant.yearCount = s.plant.yearCount ∧
    (offerNotice code params s).plant.countYear = s.plant.countYear ∧
    (offerNotice code params s).plant.untimed = s.plant.untimed := by
  unfold offerNotice
  simp

@[simp] theorem elapse_plantFields (dt : Nat) (s : State) :
    (elapse dt s).plant.fire = s.plant.fire ∧ (elapse dt s).plant.feed = s.plant.feed ∧
    (elapse dt s).plant.clean = s.plant.clean ∧ (elapse dt s).plant.trip = s.plant.trip ∧
    (elapse dt s).plant.operating = s.plant.operating ∧ (elapse dt s).plant.abnormalFlag = s.plant.abnormalFlag ∧
    (elapse dt s).plant.closedOperating = s.plant.closedOperating ∧
    (elapse dt s).plant.closedAbnormal = s.plant.closedAbnormal ∧ (elapse dt s).plant.machine = s.plant.machine ∧
    (elapse dt s).plant.continuous = s.plant.continuous ∧ (elapse dt s).plant.yearCount = s.plant.yearCount ∧
    (elapse dt s).plant.countYear = s.plant.countYear ∧ (elapse dt s).plant.recordLoss = s.plant.recordLoss ∧
    (elapse dt s).plant.permit = s.plant.permit ∧ (elapse dt s).plant.faultLine = s.plant.faultLine := by
  unfold elapse
  simp

@[simp] theorem offerAbnEnd_plantFields (cause : Cause) (minutes : Nat) (s : State) :
    (offerAbnEnd cause minutes s).plant.fire = s.plant.fire ∧
    (offerAbnEnd cause minutes s).plant.feed = s.plant.feed ∧
    (offerAbnEnd cause minutes s).plant.clean = s.plant.clean ∧
    (offerAbnEnd cause minutes s).plant.trip = s.plant.trip ∧
    (offerAbnEnd cause minutes s).plant.operating = s.plant.operating ∧
    (offerAbnEnd cause minutes s).plant.abnormalFlag = s.plant.abnormalFlag ∧
    (offerAbnEnd cause minutes s).plant.closedOperating = s.plant.closedOperating ∧
    (offerAbnEnd cause minutes s).plant.closedAbnormal = s.plant.closedAbnormal ∧
    (offerAbnEnd cause minutes s).plant.machine = s.plant.machine ∧
    (offerAbnEnd cause minutes s).plant.continuous = s.plant.continuous ∧
    (offerAbnEnd cause minutes s).plant.yearCount = s.plant.yearCount ∧
    (offerAbnEnd cause minutes s).plant.countYear = s.plant.countYear ∧
    (offerAbnEnd cause minutes s).plant.untimed = s.plant.untimed := by
  unfold offerAbnEnd
  simp

@[simp] theorem enterCutoff_plantFields (cause : CutoffCause) (s : State) :
    (enterCutoff cause s).plant.fire = s.plant.fire ∧ (enterCutoff cause s).plant.feed = s.plant.feed ∧
    (enterCutoff cause s).plant.clean = s.plant.clean ∧ (enterCutoff cause s).plant.trip = s.plant.trip ∧
    (enterCutoff cause s).plant.operating = s.plant.operating ∧
    (enterCutoff cause s).plant.abnormalFlag = s.plant.abnormalFlag ∧
    (enterCutoff cause s).plant.closedOperating = s.plant.closedOperating ∧
    (enterCutoff cause s).plant.closedAbnormal = s.plant.closedAbnormal ∧
    (enterCutoff cause s).plant.continuous = s.plant.continuous ∧
    (enterCutoff cause s).plant.yearCount = s.plant.yearCount ∧
    (enterCutoff cause s).plant.countYear = s.plant.countYear ∧
    (enterCutoff cause s).plant.untimed = s.plant.untimed := by
  unfold enterCutoff
  simp

@[simp] theorem cutoffFromAbnormal_plantFields (cause : CutoffCause) (ending : Cause) (s : State) :
    (cutoffFromAbnormal cause ending s).plant.fire = s.plant.fire ∧
    (cutoffFromAbnormal cause ending s).plant.feed = s.plant.feed ∧
    (cutoffFromAbnormal cause ending s).plant.clean = s.plant.clean ∧
    (cutoffFromAbnormal cause ending s).plant.trip = s.plant.trip ∧
    (cutoffFromAbnormal cause ending s).plant.operating = s.plant.operating ∧
    (cutoffFromAbnormal cause ending s).plant.abnormalFlag = s.plant.abnormalFlag ∧
    (cutoffFromAbnormal cause ending s).plant.closedOperating = s.plant.closedOperating ∧
    (cutoffFromAbnormal cause ending s).plant.closedAbnormal = s.plant.closedAbnormal ∧
    (cutoffFromAbnormal cause ending s).plant.continuous = s.plant.continuous ∧
    (cutoffFromAbnormal cause ending s).plant.yearCount = s.plant.yearCount ∧
    (cutoffFromAbnormal cause ending s).plant.countYear = s.plant.countYear ∧
    (cutoffFromAbnormal cause ending s).plant.untimed = s.plant.untimed := by
  unfold cutoffFromAbnormal
  simp

@[simp] theorem checkLimits_plantFields (s : State) :
    (checkLimits s).plant.fire = s.plant.fire ∧ (checkLimits s).plant.feed = s.plant.feed ∧
    (checkLimits s).plant.clean = s.plant.clean ∧ (checkLimits s).plant.trip = s.plant.trip ∧
    (checkLimits s).plant.operating = s.plant.operating ∧ (checkLimits s).plant.abnormalFlag = s.plant.abnormalFlag ∧
    (checkLimits s).plant.closedOperating = s.plant.closedOperating ∧
    (checkLimits s).plant.closedAbnormal = s.plant.closedAbnormal ∧
    (checkLimits s).plant.continuous = s.plant.continuous ∧ (checkLimits s).plant.yearCount = s.plant.yearCount ∧
    (checkLimits s).plant.countYear = s.plant.countYear ∧ (checkLimits s).plant.untimed = s.plant.untimed := by
  unfold checkLimits
  (repeat' split) <;> simp

@[simp] theorem enterAbnormal_plantFields (cause : Cause) (carried : Nat) (s : State) :
    (enterAbnormal cause carried s).plant.fire = s.plant.fire ∧
    (enterAbnormal cause carried s).plant.feed = s.plant.feed ∧
    (enterAbnormal cause carried s).plant.clean = s.plant.clean ∧
    (enterAbnormal cause carried s).plant.trip = s.plant.trip ∧
    (enterAbnormal cause carried s).plant.operating = s.plant.operating ∧
    (enterAbnormal cause carried s).plant.closedOperating = s.plant.closedOperating ∧
    (enterAbnormal cause carried s).plant.closedAbnormal = s.plant.closedAbnormal ∧
    (enterAbnormal cause carried s).plant.yearCount = s.plant.yearCount ∧
    (enterAbnormal cause carried s).plant.countYear = s.plant.countYear ∧
    (enterAbnormal cause carried s).plant.untimed = s.plant.untimed := by
  unfold enterAbnormal
  simp

@[simp] theorem endEpisode_plantFields (cause : Cause) (s : State) :
    (endEpisode cause s).plant.fire = s.plant.fire ∧ (endEpisode cause s).plant.feed = s.plant.feed ∧
    (endEpisode cause s).plant.clean = s.plant.clean ∧ (endEpisode cause s).plant.trip = s.plant.trip ∧
    (endEpisode cause s).plant.operating = s.plant.operating ∧
    (endEpisode cause s).plant.abnormalFlag = s.plant.abnormalFlag ∧
    (endEpisode cause s).plant.closedOperating = s.plant.closedOperating ∧
    (endEpisode cause s).plant.closedAbnormal = s.plant.closedAbnormal ∧
    (endEpisode cause s).plant.continuous = s.plant.continuous ∧
    (endEpisode cause s).plant.yearCount = s.plant.yearCount ∧
    (endEpisode cause s).plant.countYear = s.plant.countYear ∧
    (endEpisode cause s).plant.untimed = s.plant.untimed := by
  unfold endEpisode
  simp

@[simp] theorem edgeMachine_plantFields (line : InputLine) (active : Bool) (s : State) :
    (edgeMachine line active s).plant.fire = s.plant.fire ∧ (edgeMachine line active s).plant.feed = s.plant.feed ∧
    (edgeMachine line active s).plant.clean = s.plant.clean ∧ (edgeMachine line active s).plant.trip = s.plant.trip ∧
    (edgeMachine line active s).plant.operating = s.plant.operating ∧
    (edgeMachine line active s).plant.closedOperating = s.plant.closedOperating ∧
    (edgeMachine line active s).plant.closedAbnormal = s.plant.closedAbnormal ∧
    (edgeMachine line active s).plant.yearCount = s.plant.yearCount ∧
    (edgeMachine line active s).plant.countYear = s.plant.countYear ∧
    (edgeMachine line active s).plant.untimed = s.plant.untimed := by
  unfold edgeMachine
  (repeat' split) <;> simp

@[simp] theorem beginMinuteFlags_plantFields (s : State) :
    (beginMinuteFlags s).plant.fire = s.plant.fire ∧ (beginMinuteFlags s).plant.feed = s.plant.feed ∧
    (beginMinuteFlags s).plant.clean = s.plant.clean ∧ (beginMinuteFlags s).plant.trip = s.plant.trip ∧
    (beginMinuteFlags s).plant.closedOperating = s.plant.closedOperating ∧
    (beginMinuteFlags s).plant.closedAbnormal = s.plant.closedAbnormal ∧
    (beginMinuteFlags s).plant.machine = s.plant.machine ∧
    (beginMinuteFlags s).plant.continuous = s.plant.continuous ∧
    (beginMinuteFlags s).plant.yearCount = s.plant.yearCount ∧
    (beginMinuteFlags s).plant.countYear = s.plant.countYear ∧ (beginMinuteFlags s).plant.untimed = s.plant.untimed ∧
    (beginMinuteFlags s).plant.recordLoss = s.plant.recordLoss ∧ (beginMinuteFlags s).plant.permit = s.plant.permit ∧
    (beginMinuteFlags s).plant.faultLine = s.plant.faultLine := by
  unfold beginMinuteFlags
  simp [beginFlags]

@[simp] theorem copyClosedFlags_plantFields (s : State) :
    (copyClosedFlags s).plant.fire = s.plant.fire ∧ (copyClosedFlags s).plant.feed = s.plant.feed ∧
    (copyClosedFlags s).plant.clean = s.plant.clean ∧ (copyClosedFlags s).plant.trip = s.plant.trip ∧
    (copyClosedFlags s).plant.operating = s.plant.operating ∧
    (copyClosedFlags s).plant.abnormalFlag = s.plant.abnormalFlag ∧
    (copyClosedFlags s).plant.machine = s.plant.machine ∧ (copyClosedFlags s).plant.continuous = s.plant.continuous ∧
    (copyClosedFlags s).plant.yearCount = s.plant.yearCount ∧
    (copyClosedFlags s).plant.countYear = s.plant.countYear ∧ (copyClosedFlags s).plant.untimed = s.plant.untimed ∧
    (copyClosedFlags s).plant.recordLoss = s.plant.recordLoss ∧ (copyClosedFlags s).plant.permit = s.plant.permit ∧
    (copyClosedFlags s).plant.faultLine = s.plant.faultLine := by
  unfold copyClosedFlags
  simp

@[simp] theorem countMinute_plantFields (s : State) :
    (countMinute s).plant.fire = s.plant.fire ∧ (countMinute s).plant.feed = s.plant.feed ∧
    (countMinute s).plant.clean = s.plant.clean ∧ (countMinute s).plant.trip = s.plant.trip ∧
    (countMinute s).plant.operating = s.plant.operating ∧ (countMinute s).plant.abnormalFlag = s.plant.abnormalFlag ∧
    (countMinute s).plant.closedOperating = s.plant.closedOperating ∧
    (countMinute s).plant.closedAbnormal = s.plant.closedAbnormal ∧
    (countMinute s).plant.countYear = s.plant.countYear ∧ (countMinute s).plant.untimed = s.plant.untimed := by
  unfold countMinute
  dsimp only
  (repeat' split) <;> simp

@[simp] theorem settleCountYear_plantFields (year : Nat) (s : State) :
    (settleCountYear year s).plant.fire = s.plant.fire ∧ (settleCountYear year s).plant.feed = s.plant.feed ∧
    (settleCountYear year s).plant.clean = s.plant.clean ∧ (settleCountYear year s).plant.trip = s.plant.trip ∧
    (settleCountYear year s).plant.operating = s.plant.operating ∧
    (settleCountYear year s).plant.abnormalFlag = s.plant.abnormalFlag ∧
    (settleCountYear year s).plant.closedOperating = s.plant.closedOperating ∧
    (settleCountYear year s).plant.closedAbnormal = s.plant.closedAbnormal ∧
    (settleCountYear year s).plant.machine = s.plant.machine ∧
    (settleCountYear year s).plant.continuous = s.plant.continuous ∧
    (settleCountYear year s).plant.untimed = s.plant.untimed ∧
    (settleCountYear year s).plant.recordLoss = s.plant.recordLoss ∧
    (settleCountYear year s).plant.permit = s.plant.permit ∧
    (settleCountYear year s).plant.faultLine = s.plant.faultLine := by
  unfold settleCountYear
  (repeat' split) <;> simp

@[simp] theorem plantMinuteClose_plantFields (year : Nat) (s : State) :
    (plantMinuteClose year s).plant.fire = s.plant.fire ∧ (plantMinuteClose year s).plant.feed = s.plant.feed ∧
    (plantMinuteClose year s).plant.clean = s.plant.clean ∧ (plantMinuteClose year s).plant.trip = s.plant.trip ∧
    (plantMinuteClose year s).plant.closedOperating = s.plant.closedOperating ∧
    (plantMinuteClose year s).plant.closedAbnormal = s.plant.closedAbnormal ∧
    (plantMinuteClose year s).plant.untimed = s.plant.untimed := by
  unfold plantMinuteClose
  simp

@[simp] theorem startUntimedTimer_plantFields (s : State) :
    (startUntimedTimer s).plant.fire = s.plant.fire ∧ (startUntimedTimer s).plant.feed = s.plant.feed ∧
    (startUntimedTimer s).plant.clean = s.plant.clean ∧ (startUntimedTimer s).plant.trip = s.plant.trip ∧
    (startUntimedTimer s).plant.closedOperating = s.plant.closedOperating ∧
    (startUntimedTimer s).plant.closedAbnormal = s.plant.closedAbnormal ∧
    (startUntimedTimer s).plant.machine = s.plant.machine ∧
    (startUntimedTimer s).plant.continuous = s.plant.continuous ∧
    (startUntimedTimer s).plant.yearCount = s.plant.yearCount ∧
    (startUntimedTimer s).plant.countYear = s.plant.countYear ∧
    (startUntimedTimer s).plant.recordLoss = s.plant.recordLoss ∧
    (startUntimedTimer s).plant.permit = s.plant.permit ∧
    (startUntimedTimer s).plant.faultLine = s.plant.faultLine := by
  unfold startUntimedTimer
  simp

@[simp] theorem untimedExpiry_plantFields (s : State) :
    (untimedExpiry s).plant.fire = s.plant.fire ∧ (untimedExpiry s).plant.feed = s.plant.feed ∧
    (untimedExpiry s).plant.clean = s.plant.clean ∧ (untimedExpiry s).plant.trip = s.plant.trip ∧
    (untimedExpiry s).plant.closedOperating = s.plant.closedOperating ∧
    (untimedExpiry s).plant.closedAbnormal = s.plant.closedAbnormal ∧
    (untimedExpiry s).plant.countYear = s.plant.countYear := by
  unfold untimedExpiry
  simp

@[simp] theorem stopUntimedTimer_plantFields (year : Nat) (s : State) :
    (stopUntimedTimer year s).plant.fire = s.plant.fire ∧ (stopUntimedTimer year s).plant.feed = s.plant.feed ∧
    (stopUntimedTimer year s).plant.clean = s.plant.clean ∧ (stopUntimedTimer year s).plant.trip = s.plant.trip ∧
    (stopUntimedTimer year s).plant.closedOperating = s.plant.closedOperating ∧
    (stopUntimedTimer year s).plant.closedAbnormal = s.plant.closedAbnormal := by
  unfold stopUntimedTimer
  (repeat' split) <;> simp

@[simp] theorem offerYear_plantFields (year : Nat) (s : State) :
    (offerYear year s).plant.fire = s.plant.fire ∧ (offerYear year s).plant.feed = s.plant.feed ∧
    (offerYear year s).plant.clean = s.plant.clean ∧ (offerYear year s).plant.trip = s.plant.trip ∧
    (offerYear year s).plant.operating = s.plant.operating ∧
    (offerYear year s).plant.abnormalFlag = s.plant.abnormalFlag ∧
    (offerYear year s).plant.closedOperating = s.plant.closedOperating ∧
    (offerYear year s).plant.closedAbnormal = s.plant.closedAbnormal ∧
    (offerYear year s).plant.machine = s.plant.machine ∧ (offerYear year s).plant.continuous = s.plant.continuous ∧
    (offerYear year s).plant.yearCount = s.plant.yearCount ∧ (offerYear year s).plant.countYear = s.plant.countYear ∧
    (offerYear year s).plant.untimed = s.plant.untimed := by
  unfold offerYear
  simp

@[simp] theorem yearClose_plantFields (s : State) :
    (yearClose s).plant.fire = s.plant.fire ∧ (yearClose s).plant.feed = s.plant.feed ∧
    (yearClose s).plant.clean = s.plant.clean ∧ (yearClose s).plant.trip = s.plant.trip ∧
    (yearClose s).plant.operating = s.plant.operating ∧ (yearClose s).plant.abnormalFlag = s.plant.abnormalFlag ∧
    (yearClose s).plant.closedOperating = s.plant.closedOperating ∧
    (yearClose s).plant.closedAbnormal = s.plant.closedAbnormal ∧ (yearClose s).plant.machine = s.plant.machine ∧
    (yearClose s).plant.continuous = s.plant.continuous ∧ (yearClose s).plant.yearCount = s.plant.yearCount ∧
    (yearClose s).plant.countYear = s.plant.countYear ∧ (yearClose s).plant.untimed = s.plant.untimed := by
  unfold yearClose
  (repeat' split) <;> simp

@[simp] theorem dayClose_plantFields (s : State) :
    (dayClose s).plant.fire = s.plant.fire ∧ (dayClose s).plant.feed = s.plant.feed ∧
    (dayClose s).plant.clean = s.plant.clean ∧ (dayClose s).plant.trip = s.plant.trip ∧
    (dayClose s).plant.operating = s.plant.operating ∧ (dayClose s).plant.abnormalFlag = s.plant.abnormalFlag ∧
    (dayClose s).plant.closedOperating = s.plant.closedOperating ∧
    (dayClose s).plant.closedAbnormal = s.plant.closedAbnormal ∧ (dayClose s).plant.machine = s.plant.machine ∧
    (dayClose s).plant.continuous = s.plant.continuous ∧ (dayClose s).plant.yearCount = s.plant.yearCount ∧
    (dayClose s).plant.countYear = s.plant.countYear ∧ (dayClose s).plant.untimed = s.plant.untimed := by
  unfold dayClose
  (repeat' split) <;> simp

@[simp] theorem closeLateDay_plantFields (x : Id) (s : State) :
    (closeLateDay x s).1.plant.fire = s.plant.fire ∧ (closeLateDay x s).1.plant.feed = s.plant.feed ∧
    (closeLateDay x s).1.plant.clean = s.plant.clean ∧ (closeLateDay x s).1.plant.trip = s.plant.trip ∧
    (closeLateDay x s).1.plant.operating = s.plant.operating ∧
    (closeLateDay x s).1.plant.abnormalFlag = s.plant.abnormalFlag ∧
    (closeLateDay x s).1.plant.closedOperating = s.plant.closedOperating ∧
    (closeLateDay x s).1.plant.closedAbnormal = s.plant.closedAbnormal ∧
    (closeLateDay x s).1.plant.machine = s.plant.machine ∧
    (closeLateDay x s).1.plant.continuous = s.plant.continuous ∧
    (closeLateDay x s).1.plant.yearCount = s.plant.yearCount ∧
    (closeLateDay x s).1.plant.countYear = s.plant.countYear ∧
    (closeLateDay x s).1.plant.untimed = s.plant.untimed := by
  unfold closeLateDay
  dsimp only
  (repeat' split) <;> simp

@[simp] theorem lateYear_plantFields (x : Id) (entered : Bool) (s : State) :
    (lateYear x entered s).plant.fire = s.plant.fire ∧ (lateYear x entered s).plant.feed = s.plant.feed ∧
    (lateYear x entered s).plant.clean = s.plant.clean ∧ (lateYear x entered s).plant.trip = s.plant.trip ∧
    (lateYear x entered s).plant.operating = s.plant.operating ∧
    (lateYear x entered s).plant.abnormalFlag = s.plant.abnormalFlag ∧
    (lateYear x entered s).plant.closedOperating = s.plant.closedOperating ∧
    (lateYear x entered s).plant.closedAbnormal = s.plant.closedAbnormal ∧
    (lateYear x entered s).plant.machine = s.plant.machine ∧
    (lateYear x entered s).plant.continuous = s.plant.continuous ∧
    (lateYear x entered s).plant.yearCount = s.plant.yearCount ∧
    (lateYear x entered s).plant.countYear = s.plant.countYear ∧
    (lateYear x entered s).plant.untimed = s.plant.untimed := by
  unfold lateYear
  (repeat' split) <;> simp

@[simp] theorem offerGap_plantFields (l x : Id) (s : State) :
    (offerGap l x s).plant.fire = s.plant.fire ∧ (offerGap l x s).plant.feed = s.plant.feed ∧
    (offerGap l x s).plant.clean = s.plant.clean ∧ (offerGap l x s).plant.trip = s.plant.trip ∧
    (offerGap l x s).plant.operating = s.plant.operating ∧
    (offerGap l x s).plant.abnormalFlag = s.plant.abnormalFlag ∧
    (offerGap l x s).plant.closedOperating = s.plant.closedOperating ∧
    (offerGap l x s).plant.closedAbnormal = s.plant.closedAbnormal ∧
    (offerGap l x s).plant.machine = s.plant.machine ∧ (offerGap l x s).plant.continuous = s.plant.continuous ∧
    (offerGap l x s).plant.yearCount = s.plant.yearCount ∧ (offerGap l x s).plant.countYear = s.plant.countYear ∧
    (offerGap l x s).plant.untimed = s.plant.untimed := by
  unfold offerGap
  simp

@[simp] theorem openFirst_plantFields (x : Id) (isPartial : Bool) (s : State) :
    (openFirst x isPartial s).plant.fire = s.plant.fire ∧ (openFirst x isPartial s).plant.feed = s.plant.feed ∧
    (openFirst x isPartial s).plant.clean = s.plant.clean ∧ (openFirst x isPartial s).plant.trip = s.plant.trip ∧
    (openFirst x isPartial s).plant.operating = s.plant.operating ∧
    (openFirst x isPartial s).plant.abnormalFlag = s.plant.abnormalFlag ∧
    (openFirst x isPartial s).plant.closedOperating = s.plant.closedOperating ∧
    (openFirst x isPartial s).plant.closedAbnormal = s.plant.closedAbnormal ∧
    (openFirst x isPartial s).plant.machine = s.plant.machine ∧
    (openFirst x isPartial s).plant.continuous = s.plant.continuous ∧
    (openFirst x isPartial s).plant.yearCount = s.plant.yearCount ∧
    (openFirst x isPartial s).plant.countYear = s.plant.countYear ∧
    (openFirst x isPartial s).plant.untimed = s.plant.untimed := by
  unfold openFirst
  dsimp only
  (repeat' split) <;> simp

@[simp] theorem closeOpenInterval_plantFields (o : OpenInterval) (fate : Fate) (s : State) :
    (closeOpenInterval o fate s).plant.fire = s.plant.fire ∧ (closeOpenInterval o fate s).plant.feed = s.plant.feed ∧
    (closeOpenInterval o fate s).plant.clean = s.plant.clean ∧
    (closeOpenInterval o fate s).plant.trip = s.plant.trip ∧
    (closeOpenInterval o fate s).plant.operating = s.plant.operating ∧
    (closeOpenInterval o fate s).plant.abnormalFlag = s.plant.abnormalFlag ∧
    (closeOpenInterval o fate s).plant.closedOperating = s.plant.closedOperating ∧
    (closeOpenInterval o fate s).plant.closedAbnormal = s.plant.closedAbnormal ∧
    (closeOpenInterval o fate s).plant.machine = s.plant.machine ∧
    (closeOpenInterval o fate s).plant.continuous = s.plant.continuous ∧
    (closeOpenInterval o fate s).plant.yearCount = s.plant.yearCount ∧
    (closeOpenInterval o fate s).plant.countYear = s.plant.countYear ∧
    (closeOpenInterval o fate s).plant.untimed = s.plant.untimed := by
  unfold closeOpenInterval
  (repeat' split) <;> simp

@[simp] theorem periodIntervalClose_plantFields (early : Bool) (next : Id) (s : State) :
    (periodIntervalClose early next s).plant.fire = s.plant.fire ∧
    (periodIntervalClose early next s).plant.feed = s.plant.feed ∧
    (periodIntervalClose early next s).plant.clean = s.plant.clean ∧
    (periodIntervalClose early next s).plant.trip = s.plant.trip ∧
    (periodIntervalClose early next s).plant.operating = s.plant.operating ∧
    (periodIntervalClose early next s).plant.abnormalFlag = s.plant.abnormalFlag ∧
    (periodIntervalClose early next s).plant.closedOperating = s.plant.closedOperating ∧
    (periodIntervalClose early next s).plant.closedAbnormal = s.plant.closedAbnormal ∧
    (periodIntervalClose early next s).plant.machine = s.plant.machine ∧
    (periodIntervalClose early next s).plant.continuous = s.plant.continuous ∧
    (periodIntervalClose early next s).plant.yearCount = s.plant.yearCount ∧
    (periodIntervalClose early next s).plant.countYear = s.plant.countYear ∧
    (periodIntervalClose early next s).plant.untimed = s.plant.untimed := by
  unfold periodIntervalClose
  (repeat' split) <;> simp

@[simp] theorem interruptPeriod_plantFields (s : State) :
    (interruptPeriod s).plant.fire = s.plant.fire ∧ (interruptPeriod s).plant.feed = s.plant.feed ∧
    (interruptPeriod s).plant.clean = s.plant.clean ∧ (interruptPeriod s).plant.trip = s.plant.trip ∧
    (interruptPeriod s).plant.operating = s.plant.operating ∧
    (interruptPeriod s).plant.abnormalFlag = s.plant.abnormalFlag ∧
    (interruptPeriod s).plant.closedOperating = s.plant.closedOperating ∧
    (interruptPeriod s).plant.closedAbnormal = s.plant.closedAbnormal ∧
    (interruptPeriod s).plant.machine = s.plant.machine ∧ (interruptPeriod s).plant.continuous = s.plant.continuous ∧
    (interruptPeriod s).plant.yearCount = s.plant.yearCount ∧
    (interruptPeriod s).plant.countYear = s.plant.countYear ∧
    (interruptPeriod s).plant.untimed = s.plant.untimed := by
  unfold interruptPeriod
  (repeat' split) <;> simp

@[simp] theorem enterRecordingByTime_plantFields (t : StationTime) (s : State) :
    (enterRecordingByTime t s).plant.fire = s.plant.fire ∧ (enterRecordingByTime t s).plant.feed = s.plant.feed ∧
    (enterRecordingByTime t s).plant.clean = s.plant.clean ∧ (enterRecordingByTime t s).plant.trip = s.plant.trip ∧
    (enterRecordingByTime t s).plant.operating = s.plant.operating ∧
    (enterRecordingByTime t s).plant.abnormalFlag = s.plant.abnormalFlag ∧
    (enterRecordingByTime t s).plant.closedOperating = s.plant.closedOperating ∧
    (enterRecordingByTime t s).plant.closedAbnormal = s.plant.closedAbnormal ∧
    (enterRecordingByTime t s).plant.machine = s.plant.machine ∧
    (enterRecordingByTime t s).plant.continuous = s.plant.continuous ∧
    (enterRecordingByTime t s).plant.yearCount = s.plant.yearCount ∧
    (enterRecordingByTime t s).plant.countYear = s.plant.countYear ∧
    (enterRecordingByTime t s).plant.untimed = s.plant.untimed := by
  unfold enterRecordingByTime
  (repeat' split) <;> simp

@[simp] theorem ownRecordPass_plantFields (r : SlotImage) (b slot : Nat) (s : State) :
    (ownRecordPass r b slot s).plant.fire = s.plant.fire ∧ (ownRecordPass r b slot s).plant.feed = s.plant.feed ∧
    (ownRecordPass r b slot s).plant.clean = s.plant.clean ∧ (ownRecordPass r b slot s).plant.trip = s.plant.trip ∧
    (ownRecordPass r b slot s).plant.operating = s.plant.operating ∧
    (ownRecordPass r b slot s).plant.abnormalFlag = s.plant.abnormalFlag ∧
    (ownRecordPass r b slot s).plant.closedOperating = s.plant.closedOperating ∧
    (ownRecordPass r b slot s).plant.closedAbnormal = s.plant.closedAbnormal ∧
    (ownRecordPass r b slot s).plant.machine = s.plant.machine ∧
    (ownRecordPass r b slot s).plant.continuous = s.plant.continuous ∧
    (ownRecordPass r b slot s).plant.yearCount = s.plant.yearCount ∧
    (ownRecordPass r b slot s).plant.countYear = s.plant.countYear ∧
    (ownRecordPass r b slot s).plant.untimed = s.plant.untimed := by
  unfold ownRecordPass
  (repeat' split) <;> simp

@[simp] theorem recordPass_plantFields (a : Area) (r : SlotImage) (b slot : Nat) (s : State) :
    (recordPass a r b slot s).plant.fire = s.plant.fire ∧ (recordPass a r b slot s).plant.feed = s.plant.feed ∧
    (recordPass a r b slot s).plant.clean = s.plant.clean ∧ (recordPass a r b slot s).plant.trip = s.plant.trip ∧
    (recordPass a r b slot s).plant.operating = s.plant.operating ∧
    (recordPass a r b slot s).plant.abnormalFlag = s.plant.abnormalFlag ∧
    (recordPass a r b slot s).plant.closedOperating = s.plant.closedOperating ∧
    (recordPass a r b slot s).plant.closedAbnormal = s.plant.closedAbnormal ∧
    (recordPass a r b slot s).plant.machine = s.plant.machine ∧
    (recordPass a r b slot s).plant.continuous = s.plant.continuous ∧
    (recordPass a r b slot s).plant.yearCount = s.plant.yearCount ∧
    (recordPass a r b slot s).plant.countYear = s.plant.countYear ∧
    (recordPass a r b slot s).plant.untimed = s.plant.untimed := by
  unfold recordPass
  (repeat' split) <;> simp

@[simp] theorem headComplete_plantFields (a : Area) (b slot : Nat) (pass : Bool) (s : State) :
    (headComplete a b slot pass s).plant.fire = s.plant.fire ∧
    (headComplete a b slot pass s).plant.feed = s.plant.feed ∧
    (headComplete a b slot pass s).plant.clean = s.plant.clean ∧
    (headComplete a b slot pass s).plant.trip = s.plant.trip ∧
    (headComplete a b slot pass s).plant.operating = s.plant.operating ∧
    (headComplete a b slot pass s).plant.abnormalFlag = s.plant.abnormalFlag ∧
    (headComplete a b slot pass s).plant.closedOperating = s.plant.closedOperating ∧
    (headComplete a b slot pass s).plant.closedAbnormal = s.plant.closedAbnormal ∧
    (headComplete a b slot pass s).plant.machine = s.plant.machine ∧
    (headComplete a b slot pass s).plant.continuous = s.plant.continuous ∧
    (headComplete a b slot pass s).plant.yearCount = s.plant.yearCount ∧
    (headComplete a b slot pass s).plant.countYear = s.plant.countYear ∧
    (headComplete a b slot pass s).plant.untimed = s.plant.untimed := by
  unfold headComplete
  dsimp only
  (repeat' split) <;> simp

@[simp] theorem recordComplete_plantFields (b slot : Nat) (pass : Bool) (s : State) :
    (recordComplete b slot pass s).plant.fire = s.plant.fire ∧
    (recordComplete b slot pass s).plant.feed = s.plant.feed ∧
    (recordComplete b slot pass s).plant.clean = s.plant.clean ∧
    (recordComplete b slot pass s).plant.trip = s.plant.trip ∧
    (recordComplete b slot pass s).plant.operating = s.plant.operating ∧
    (recordComplete b slot pass s).plant.abnormalFlag = s.plant.abnormalFlag ∧
    (recordComplete b slot pass s).plant.closedOperating = s.plant.closedOperating ∧
    (recordComplete b slot pass s).plant.closedAbnormal = s.plant.closedAbnormal ∧
    (recordComplete b slot pass s).plant.machine = s.plant.machine ∧
    (recordComplete b slot pass s).plant.continuous = s.plant.continuous ∧
    (recordComplete b slot pass s).plant.yearCount = s.plant.yearCount ∧
    (recordComplete b slot pass s).plant.countYear = s.plant.countYear ∧
    (recordComplete b slot pass s).plant.untimed = s.plant.untimed := by
  unfold recordComplete
  (repeat' split) <;> simp

@[simp] theorem fullErased_plantFields (b : Nat) (purpose : ErasePurpose) (s : State) :
    (fullErased b purpose s).plant.fire = s.plant.fire ∧ (fullErased b purpose s).plant.feed = s.plant.feed ∧
    (fullErased b purpose s).plant.clean = s.plant.clean ∧ (fullErased b purpose s).plant.trip = s.plant.trip ∧
    (fullErased b purpose s).plant.operating = s.plant.operating ∧
    (fullErased b purpose s).plant.abnormalFlag = s.plant.abnormalFlag ∧
    (fullErased b purpose s).plant.closedOperating = s.plant.closedOperating ∧
    (fullErased b purpose s).plant.closedAbnormal = s.plant.closedAbnormal ∧
    (fullErased b purpose s).plant.machine = s.plant.machine ∧
    (fullErased b purpose s).plant.continuous = s.plant.continuous ∧
    (fullErased b purpose s).plant.yearCount = s.plant.yearCount ∧
    (fullErased b purpose s).plant.countYear = s.plant.countYear ∧
    (fullErased b purpose s).plant.untimed = s.plant.untimed := by
  unfold fullErased
  (repeat' split) <;> simp

@[simp] theorem poolEraseComplete_plantFields (b : Nat) (purpose : ErasePurpose) (pass : Bool) (s : State) :
    (poolEraseComplete b purpose pass s).plant.fire = s.plant.fire ∧
    (poolEraseComplete b purpose pass s).plant.feed = s.plant.feed ∧
    (poolEraseComplete b purpose pass s).plant.clean = s.plant.clean ∧
    (poolEraseComplete b purpose pass s).plant.trip = s.plant.trip ∧
    (poolEraseComplete b purpose pass s).plant.operating = s.plant.operating ∧
    (poolEraseComplete b purpose pass s).plant.abnormalFlag = s.plant.abnormalFlag ∧
    (poolEraseComplete b purpose pass s).plant.closedOperating = s.plant.closedOperating ∧
    (poolEraseComplete b purpose pass s).plant.closedAbnormal = s.plant.closedAbnormal ∧
    (poolEraseComplete b purpose pass s).plant.machine = s.plant.machine ∧
    (poolEraseComplete b purpose pass s).plant.continuous = s.plant.continuous ∧
    (poolEraseComplete b purpose pass s).plant.yearCount = s.plant.yearCount ∧
    (poolEraseComplete b purpose pass s).plant.countYear = s.plant.countYear ∧
    (poolEraseComplete b purpose pass s).plant.untimed = s.plant.untimed := by
  unfold poolEraseComplete
  (repeat' split) <;> simp

@[simp] theorem closeInterval_plantFields (early : Bool) (closing next : Id) (s : State) :
    (closeInterval early closing next s).plant.fire = s.plant.fire ∧
    (closeInterval early closing next s).plant.feed = s.plant.feed ∧
    (closeInterval early closing next s).plant.clean = s.plant.clean ∧
    (closeInterval early closing next s).plant.trip = s.plant.trip ∧
    (closeInterval early closing next s).plant.operating = s.plant.operating ∧
    (closeInterval early closing next s).plant.abnormalFlag = s.plant.abnormalFlag ∧
    (closeInterval early closing next s).plant.closedOperating = s.plant.closedOperating ∧
    (closeInterval early closing next s).plant.closedAbnormal = s.plant.closedAbnormal ∧
    (closeInterval early closing next s).plant.machine = s.plant.machine ∧
    (closeInterval early closing next s).plant.continuous = s.plant.continuous ∧
    (closeInterval early closing next s).plant.yearCount = s.plant.yearCount ∧
    (closeInterval early closing next s).plant.countYear = s.plant.countYear ∧
    (closeInterval early closing next s).plant.untimed = s.plant.untimed := by
  unfold closeInterval
  dsimp only
  (repeat' split) <;> simp

@[simp] theorem offerAdjust_plantFields (staged : Option StagedAdjustment) (s : State) :
    (offerAdjust staged s).plant.fire = s.plant.fire ∧ (offerAdjust staged s).plant.feed = s.plant.feed ∧
    (offerAdjust staged s).plant.clean = s.plant.clean ∧ (offerAdjust staged s).plant.trip = s.plant.trip ∧
    (offerAdjust staged s).plant.operating = s.plant.operating ∧
    (offerAdjust staged s).plant.abnormalFlag = s.plant.abnormalFlag ∧
    (offerAdjust staged s).plant.closedOperating = s.plant.closedOperating ∧
    (offerAdjust staged s).plant.closedAbnormal = s.plant.closedAbnormal ∧
    (offerAdjust staged s).plant.machine = s.plant.machine ∧
    (offerAdjust staged s).plant.continuous = s.plant.continuous ∧
    (offerAdjust staged s).plant.yearCount = s.plant.yearCount ∧
    (offerAdjust staged s).plant.countYear = s.plant.countYear ∧
    (offerAdjust staged s).plant.untimed = s.plant.untimed := by
  unfold offerAdjust
  (repeat' split) <;> simp

@[simp] theorem enterFromSetup_plantFields (f : InForce) (terminal : Nat) (s : State) :
    (enterFromSetup f terminal s).plant.fire = s.plant.fire ∧
    (enterFromSetup f terminal s).plant.feed = s.plant.feed ∧
    (enterFromSetup f terminal s).plant.clean = s.plant.clean ∧
    (enterFromSetup f terminal s).plant.trip = s.plant.trip ∧
    (enterFromSetup f terminal s).plant.operating = s.plant.operating ∧
    (enterFromSetup f terminal s).plant.abnormalFlag = s.plant.abnormalFlag ∧
    (enterFromSetup f terminal s).plant.closedOperating = s.plant.closedOperating ∧
    (enterFromSetup f terminal s).plant.closedAbnormal = s.plant.closedAbnormal ∧
    (enterFromSetup f terminal s).plant.machine = s.plant.machine ∧
    (enterFromSetup f terminal s).plant.continuous = s.plant.continuous ∧
    (enterFromSetup f terminal s).plant.yearCount = s.plant.yearCount ∧
    (enterFromSetup f terminal s).plant.countYear = s.plant.countYear ∧
    (enterFromSetup f terminal s).plant.untimed = s.plant.untimed := by
  unfold enterFromSetup
  (repeat' split) <;> simp

@[simp] theorem carryOutStart_plantFields (w : ConfigWrite) (s : State) :
    (carryOutStart w s).plant.fire = s.plant.fire ∧ (carryOutStart w s).plant.feed = s.plant.feed ∧
    (carryOutStart w s).plant.clean = s.plant.clean ∧ (carryOutStart w s).plant.trip = s.plant.trip ∧
    (carryOutStart w s).plant.operating = s.plant.operating ∧
    (carryOutStart w s).plant.abnormalFlag = s.plant.abnormalFlag ∧
    (carryOutStart w s).plant.closedOperating = s.plant.closedOperating ∧
    (carryOutStart w s).plant.closedAbnormal = s.plant.closedAbnormal ∧
    (carryOutStart w s).plant.machine = s.plant.machine ∧ (carryOutStart w s).plant.continuous = s.plant.continuous ∧
    (carryOutStart w s).plant.yearCount = s.plant.yearCount ∧
    (carryOutStart w s).plant.countYear = s.plant.countYear ∧
    (carryOutStart w s).plant.untimed = s.plant.untimed := by
  unfold carryOutStart
  (repeat' split) <;> simp

@[simp] theorem configComplete_plantFields (slot : Nat) (pass : Bool) (s : State) :
    (configComplete slot pass s).plant.fire = s.plant.fire ∧ (configComplete slot pass s).plant.feed = s.plant.feed ∧
    (configComplete slot pass s).plant.clean = s.plant.clean ∧
    (configComplete slot pass s).plant.trip = s.plant.trip ∧
    (configComplete slot pass s).plant.operating = s.plant.operating ∧
    (configComplete slot pass s).plant.abnormalFlag = s.plant.abnormalFlag ∧
    (configComplete slot pass s).plant.closedOperating = s.plant.closedOperating ∧
    (configComplete slot pass s).plant.closedAbnormal = s.plant.closedAbnormal ∧
    (configComplete slot pass s).plant.machine = s.plant.machine ∧
    (configComplete slot pass s).plant.continuous = s.plant.continuous ∧
    (configComplete slot pass s).plant.yearCount = s.plant.yearCount ∧
    (configComplete slot pass s).plant.countYear = s.plant.countYear ∧
    (configComplete slot pass s).plant.untimed = s.plant.untimed := by
  unfold configComplete
  (repeat' split) <;> simp

@[simp] theorem carryOutRestart_plantFields (terminal : Nat) (s : State) :
    (carryOutRestart terminal s).plant.fire = s.plant.fire ∧ (carryOutRestart terminal s).plant.feed = s.plant.feed ∧
    (carryOutRestart terminal s).plant.clean = s.plant.clean ∧
    (carryOutRestart terminal s).plant.trip = s.plant.trip ∧
    (carryOutRestart terminal s).plant.operating = s.plant.operating ∧
    (carryOutRestart terminal s).plant.abnormalFlag = s.plant.abnormalFlag ∧
    (carryOutRestart terminal s).plant.closedOperating = s.plant.closedOperating ∧
    (carryOutRestart terminal s).plant.closedAbnormal = s.plant.closedAbnormal ∧
    (carryOutRestart terminal s).plant.machine = s.plant.machine ∧
    (carryOutRestart terminal s).plant.continuous = s.plant.continuous ∧
    (carryOutRestart terminal s).plant.yearCount = s.plant.yearCount ∧
    (carryOutRestart terminal s).plant.countYear = s.plant.countYear ∧
    (carryOutRestart terminal s).plant.untimed = s.plant.untimed := by
  unfold carryOutRestart
  simp

end Sys2Proof.Laws
end

