-- ==== Sys2Proof/WellFormed.lean ====
section
/-! DEFINITION. Which commands carry operands that their events can carry. A command that does not is dealt with by the same
rules (log entry 31). -/

namespace Sys2Proof

open Sys2Proof.Machine

/-- A frame of a known kind that passes checks 3 to 5 of R84. -/
def wellFormedFrame (k : FrameKind) (sender target : Byte) (payload : List Byte) : Bool :=
  frameAllowed k sender.toNat target.toNat payload

/-- A frame under a station's number: the frames of R85 carry a station as sender. -/
def wellFormedClash (kind target : Byte) (payload : List Byte) : Bool :=
  match frameKindOf kind.toNat with
  | some k => frameAllowed k 1 target.toNat payload
  | none => false

/-- A frame that passes the checks and may be meant for another node: a reply or a request (R86). -/
def wellFormedTraffic (kind sender target : Byte) (payload : List Byte) : Bool :=
  match frameKindOf kind.toNat with
  | some k => frameAllowed k sender.toNat target.toNat payload && k.frameClass != .broadcast
  | none => false

/-- All the characters of a complete frame: 6 and as many more as its length character says, at most 136 (R83). -/
def completeCharacters (c : List Byte) : Bool := c.length == 6 + field c 3 1 && field c 3 1 ≤ 136

/-- Numbers of pool blocks, each once (R128). -/
def poolBlocks (l : List Nat) : Bool := l.all (fun b => 1 ≤ b && b ≤ 255) && decide l.Nodup

/-- A command whose operands its event can carry. -/
def wellFormed : Instr → Bool
  | .powerOnReset _ _ _ _ _ => true
  | .analyserFrame bytes => !bytes.isEmpty
  | .analyserFrameAbandon => true
  | .inputEdge _ _ => true
  | .minuteClose => true
  | .untimedMinuteClose => true
  | .mark s t p => wellFormedFrame .mark s t p
  | .load s t p => wellFormedFrame .load s t p
  | .result s t p => wellFormedFrame .result s t p
  | .addressClash k t p => wellFormedClash k t p
  | .frameBroken _ => true
  | .frameCheckFail c => completeCharacters c && !charactersPass c
  | .statusReq s t p => wellFormedFrame .statusReq s t p
  | .window s t p => wellFormedFrame .window s t p
  | .read s t p => wellFormedFrame .read s t p
  | .time s t p => wellFormedFrame .time s t p
  | .release s t p => wellFormedFrame .release s t p
  | .configure s t p => wellFormedFrame .configure s t p
  | .start s t p => wellFormedFrame .start s t p
  | .restart s t p => wellFormedFrame .restart s t p
  | .transmitAttemptStart => true
  | .arbitrationLost => true
  | .transmitError => true
  | .transmitComplete => true
  | .entryExpired => true
  | .loadEntryAgeOut _ => true
  | .programmerStart => true
  | .slotProgramComplete _ => true
  | .blockEraseComplete _ => true
  | .slotCopyComplete _ => true
  | .storeReadServed => true
  | .scanComplete erases headers => poolBlocks erases && poolBlocks headers
  | .lineIdle => true
  | .trafficForAnotherNode k s t p => wellFormedTraffic k s t p

end Sys2Proof
end

