-- ==== Sys2Proof/Tests/Slice0.lean ====
section
/-! SUPPORT. The model's own tests: the checks of WellFormed on ill-formed terms, worked values of the manual, one or two
steps of each command on a small state, and for every statement with hypotheses a state and operands that meet them. -/

namespace Sys2Proof.Tests

set_option Elab.async false

open Sys2Proof.Machine

/-! Small states to work on. -/

/-- The next state of a command; every command of this model has one. -/
def after (i : Instr) (s : State) : State :=
  match exec i s with
  | .next t => t
  | .fault _ => s
  | .refused _ => s

/-- Bytes from their numbers. -/
def bytes (l : List Nat) : List Byte := l.map (BitVec.ofNat 8)

/-- NOX on channel 3, wet and actual, limits 40,000 and 20,000, deduction 4,000, ceiling 200,000. -/
def nox : ComponentConfig :=
  { channel := 3, pollutant := .nox, wet := true, actual := true, aboveOnly := false, intervalLimit := 40000,
    dayLimit := 20000, deduction := 4000, ceiling := 200000 }

/-- The configuration of the tests: NOX alone, with its peripherals, in stack group 1 with partner 3. -/
def image : ConfigImage :=
  { components := some nox :: List.replicate 7 none, o2 := some 0, h2o := some 1, temp := some 2, press := some 6,
    flow := some 7, load := some 8, stackGroup := 1, partners := [3] }

/-- Station 4 in a state, its receiver idle, with the test configuration in force and output lines as decided. -/
def station (st : StationState) : State :=
  { ctrl := { state := st, station := 4, inForce := some { image := image, sequence := 1 } },
    link := { receiver := .idle },
    plant := { permit := decidePermit .normal st, faultLine := decideFault false st } }

/-- Day 143 of 2031, at a minute of the day and a number of microseconds. -/
def timeAt (minute micros : Nat) : StationTime := { year := 2031, day := 143, minute := minute, micros := micros }

/-- An empty open interval with the components of the test configuration. -/
def emptyInterval (i : Id) : OpenInterval := { id := i, components := some {} :: List.replicate 7 none }

/-- Station 4 recording at a minute of day 143 of 2031, the running interval open. -/
def recording (minute micros : Nat) : State :=
  let s := station .recording
  { s with
    clock := { s.clock with time := some (timeAt minute micros) },
    period := { s.period with recording := .opened, openInterval := some (emptyInterval (timeAt minute 0).interval) } }

/-- A state with another plant block. -/
def withPlant (p : Plant → Plant) (s : State) : State := { s with plant := p s.plant }

/-- A state with another link block. -/
def withLink (l : Link → Link) (s : State) : State := { s with link := l s.link }

/-- A state with another store block. -/
def withStore (t : Store → Store) (s : State) : State := { s with store := t s.store }

/-- A reading frame with its check (R2). -/
def readingFrame (channel status : Nat) (value : Int) : List Byte :=
  let b := [syncByte] ++ be 1 channel ++ be 1 status ++ beSigned 3 value
  b ++ be 2 (crc16 b)

/-- A waiting entry of the transmit queue. -/
def entry (k : FrameKind) (offered deadline : Nat) : TxEntry :=
  { kind := k, target := 0, payload := [], terminal := none, offered := offered, deadline := deadline }

/-- An attempt in progress with an entry, another entry waiting on each side. -/
def attempting (e : TxEntry) (s : State) : State :=
  withLink (fun l => { l with
    attempt := some 0, receiver := .assembling,
    queue := [entry .result 0 9000000] ++ { e with sending := true } :: [entry .result 5 9000000] }) s

/-- An interval record of an origin, of day 143 of 2031. -/
def recordOf (origin index : Nat) : SlotImage :=
  makeSlot .interval (intervalData
    { origin := origin, id := { year := 2031, day := 143, index := index }, fate := .counted, flags := {}, operating := 30,
      abnormal := 0, o2Mean := 850, qsMean := 0, components := List.replicate 8 none })

/-- A RESULT payload: the 128 data bytes and the 8 spare bytes of a slot (R156). -/
def resultBytes (r : SlotImage) : List Byte := r.data ++ r.spare

/-- A WINDOW payload of station 4: INTERVAL records 16 to 17 of day 143, components 1 to 2. -/
def windowBytes4 : List Byte :=
  bytes [4, 0] ++ idBytes { year := 2031, day := 143, index := 16 } ++ idBytes { year := 2031, day := 143, index := 17 }
    ++ bytes [1, 2, 0, 0]

/-- The window those bytes ask for. -/
def window4 (k : WindowKind) (headerPending : Bool) : Window :=
  { origin := 4, kind := k, first := { year := 2031, day := 143, index := 16 }, last := { year := 2031, day := 143, index := 17 },
    firstComponent := 1, lastComponent := 2, order := .recordMajor, direction := .forward,
    cursor := { id := { year := 2031, day := 143, index := 16 }, sub := 1 }, headerPending := headerPending }

/-- A state in which terminal 12 has a window. -/
def withWindow (w : Window) (s : State) : State :=
  { s with readout := { s.readout with windows := some w :: List.replicate 3 none } }

/-! The checks of WellFormed, each refusing a term. -/

theorem test_wf_empty_reading : wellFormed (.analyserFrame []) = false := by decide
theorem test_wf_mark_length : wellFormed (.mark 1 0 (bytes [31, 0, 143])) = false := by decide
theorem test_wf_mark_target : wellFormed (.mark 1 12 (bytes [31, 0, 143, 5])) = false := by decide
theorem test_wf_mark_sender : wellFormed (.mark 12 0 (bytes [31, 0, 143, 5])) = false := by decide
theorem test_wf_mark : wellFormed (.mark 1 0 (bytes [31, 0, 143, 5])) = true := by decide
theorem test_wf_request_sender : wellFormed (.start 11 4 []) = false := by decide
theorem test_wf_request_target : wellFormed (.start 12 9 []) = false := by decide
theorem test_wf_configure_length : wellFormed (.configure 12 4 (bytes [9, 0])) = false := by decide
theorem test_wf_clash_kind : wellFormed (.addressClash 0x13 0 (bytes [31, 0, 143, 5])) = false := by decide
theorem test_wf_traffic_broadcast : wellFormed (.trafficForAnotherNode 0x12 1 0 (bytes [31, 0, 143, 5])) = false := by decide
theorem test_wf_check_fail_passes :
    wellFormed (.frameCheckFail (frameCharacters .start 12 4 [])) = false := by decide +kernel
theorem test_wf_check_fail_length : wellFormed (.frameCheckFail (bytes [0x6D, 12, 4, 1, 0, 0])) = false := by decide +kernel
theorem test_wf_scan_blocks : wellFormed (.scanComplete [0] []) = false := by decide
theorem test_wf_scan_twice : wellFormed (.scanComplete [] [7, 7]) = false := by decide

/-! Worked values of the manual. -/

/-- R196: over the nine ASCII characters "123456789" the check is 0x29B1. -/
theorem test_crc : crc16 (bytes [0x31, 0x32, 0x33, 0x34, 0x35, 0x36, 0x37, 0x38, 0x39]) = 0x29B1 := by decide +kernel

/-- R183: straps reading 0 are station number 8. -/
theorem test_straps : stationOfStraps 0 = 8 ∧ stationOfStraps 5 = 5 := by decide

/-- 00_scope, Conventions: halfway cases go away from zero. -/
theorem test_rounding : roundDiv 25 10 = 3 ∧ roundDiv (-25) 10 = -3 ∧ roundDiv 24 10 = 2 := by decide

/-- 00_scope, Conventions: 2031 has 365 days, and the last minute of day 365 is followed by the first of 2032. -/
theorem test_year_end : (({ year := 2031, day := 365, minute := 1439, micros := 0 } : StationTime).nextMinute) =
    { year := 2032, day := 1, minute := 0, micros := 0 } := by decide

/-- R129: a YEAR part is dated the last day of its year. -/
theorem test_year_date : (makeSlot .year2 (year2Data 3 2032 {})).date = some (dayId 2032 366) := by decide +kernel

/-! One step of each command. -/

theorem test_powerOnReset :
    (after (.powerOnReset 5 true false false false) (recording 600 0)).ctrl.station = 5 ∧
      (after (.powerOnReset 5 true false false false) (recording 600 0)).plant.fire = true := by decide +kernel

theorem test_analyserFrame :
    ((after (.analyserFrame (readingFrame 3 0 15240)) (recording 600 0)).intake.channels.map (fun e => e.acc.sum)) =
      [0, 0, 0, 15240, 0, 0, 0, 0, 0, 0, 0, 0, 0, 0, 0, 0] := by decide +kernel

/-- R3: a frame whose check fails, the sync value standing at its fourth byte: the bytes from there on are kept. -/
theorem test_analyserFrame_check :
    (after (.analyserFrame (bytes [0xA5, 3, 0, 0xA5, 1, 0, 0, 0])) (recording 600 0)).intake.partialFrame =
      bytes [0xA5, 1, 0, 0, 0] := by decide +kernel

theorem test_analyserFrameAbandon :
    (after .analyserFrameAbandon { State.reset with intake := { partialFrame := [syncByte] } }).intake.frameErrors = 1 := by
  decide +kernel

/-- R64, R66: a FEED assertion makes the minute an operating one. -/
theorem test_inputEdge : (after (.inputEdge .feed true) (recording 600 0)).plant.operating = true := by decide +kernel

/-- R100: the minute after 10:29 is 10:30, of interval 21. -/
theorem test_minuteClose :
    (after .minuteClose (recording 629 60000000)).period.openInterval.map (fun o => o.id.index) = some 21 := by
  decide +kernel

/-- R67: the untimed minute starts afresh. -/
theorem test_untimedMinuteClose :
    (after .untimedMinuteClose (withPlant (fun p => { p with untimed := some 59000000 }) (station .untimed))).plant.untimed =
      some 0 := by decide +kernel

/-- R96: a reply due 2 s after its request expires within the untimed minute, a LOAD due at its end waits. -/
theorem test_untimedMinuteClose_expires :
    let t := after .untimedMinuteClose (withLink (fun l => { l with queue := [entry .answer 0 2000000, entry .load 0 30000000] })
      (withPlant (fun p => { p with untimed := some 30000000 }) (station .untimed)))
    t.link.queue.map (fun e => e.kind) = [.load] ∧ t.link.expiredFrames = 1 ∧ t.link.resultMisses = 0 := by decide +kernel

/-- R103: a MARK for interval 20 of day 143 sets an untimed station to 10:30. -/
theorem test_mark :
    (after (.mark 1 0 (bytes [31, 0, 143, 20])) (station .untimed)).clock.time = some (timeAt 630 0) := by decide +kernel

/-- R118: a LOAD of station 2, group 1, minute 10:00 of day 143, load 4,200, OPERATING. -/
theorem test_load :
    (after (.load 2 0 (bytes [1, 31, 0, 143, 2, 88, 0, 16, 104, 0])) (recording 600 0)).share.entry 2 =
      some { group := 1, latest := { minute := { year := 2031, day := 143, minute := 600 }, load := 4200,
                                     status := .operating }, previous := none, age := 0 } := by decide +kernel

/-- R160, R162: a partner's RESULT waits for the mirror area. -/
theorem test_result :
    (after (.result 3 0 (resultBytes (recordOf 3 19))) (recording 600 0)).store.mirrorQueue.length = 1 := by decide +kernel

theorem test_addressClash :
    (after (.addressClash 0x12 0 (bytes [31, 0, 143, 20])) (recording 600 0)).link.addressClashes = 1 := by decide +kernel

theorem test_frameBroken :
    (after (.frameBroken .framingError) (recording 600 0)).link.receiver = .waitIdle := by decide +kernel

theorem test_frameCheckFail :
    (after (.frameCheckFail (bytes [0x6D, 12, 4, 0, 0, 0])) (recording 600 0)).link.receiveErrors = 1 := by decide +kernel

/-- R168, R169: the reply is due 2 s after the request was taken. -/
theorem test_statusReq :
    (after (.statusReq 12 0 (bytes [1])) (recording 600 0)).link.queue.map (fun e => (e.kind, e.target, e.deadline)) =
      [(.statusReply, 12, 2000000)] := by decide +kernel

theorem test_window :
    (after (.window 12 4 windowBytes4) (recording 600 0)).readout.window 12 = some (window4 .interval true) := by
  decide +kernel

/-- R173: two ids of two components are four items; both ids are absent. -/
theorem test_read :
    (after (.read 12 4 (bytes [0])) (withWindow (window4 .interval true) (recording 600 0))).link.queue.map
      (fun e => e.payload.drop 17) = [bytes [0, 0, 0, 4, 0, 0, 0, 2]] := by decide +kernel

/-- R109: a difference of 45 s stages 30 of them. -/
theorem test_time :
    (after (.time 12 4 (bytes [31, 0, 143, 2, 88, 45])) (recording 600 0)).clock.staged =
      some { applied := 30, requested := 45, terminal := 12 } := by decide +kernel

/-- R75: not in CUTOFF, a RELEASE is answered CONDITION. -/
theorem test_release :
    (after (.release 12 4 []) (recording 600 0)).link.queue.map (fun e => e.payload) = [bytes [0x69, 3]] := by
  decide +kernel

/-- R185: CHANNELS with every channel NONE. -/
theorem test_configure :
    (after (.configure 12 4 (bytes [9, 255, 255, 255, 255, 255, 3])) (station .setup)).ctrl.edit =
      { ({} : ConfigImage) with load := some 3 } := by decide +kernel

/-- R187: the fresh image, with no component, fails check 1. -/
theorem test_start :
    (after (.start 12 4 []) (station .setup)).link.queue.map (fun e => e.payload) = [bytes [0x6D, 3]] := by decide +kernel

theorem test_restart :
    (after (.restart 12 4 []) (recording 600 0)).ctrl.edit = image ∧
      (after (.restart 12 4 []) (recording 600 0)).period.recording = .off := by decide +kernel

/-- R92: the MARK, of the lower kind code, is sent before the RESULT offered earlier. -/
theorem test_transmitAttemptStart :
    (after .transmitAttemptStart (withLink (fun l => { l with queue := [entry .result 0 9, entry .mark 4 9] })
      (recording 600 0))).link.queue.map (fun e => e.sending) = [false, true] := by decide +kernel

theorem test_arbitrationLost :
    (after .arbitrationLost (attempting (entry .mark 3 9000000) (recording 600 0))).link.queue.map (fun e => e.sending) =
      [false, false, false] := by decide +kernel

theorem test_transmitError :
    (after .transmitError (attempting (entry .mark 3 9000000) (recording 600 0))).link.queue.map (fun e => e.errors) =
      [0, 1, 0] := by decide +kernel

theorem test_transmitComplete :
    (after .transmitComplete (attempting (entry .mark 3 9000000) (recording 600 0))).link.queue.map (fun e => e.kind) =
      [.result, .result] := by decide +kernel

/-- R96: the LOAD's deadline comes before the RESULT's. -/
theorem test_entryExpired :
    (after .entryExpired (withLink (fun l => { l with queue := [entry .result 0 600000000, entry .load 0 30000000] })
      (recording 600 0))).link.queue.map (fun e => e.kind) = [.result] := by decide +kernel

/-- An entry of the load share table at an age. -/
def shareEntry (age : Nat) : ShareEntry :=
  { group := 1, latest := { minute := { year := 2031, day := 143, minute := 599 }, load := 4200, status := .operating },
    previous := none, age := age }

/-- A state in which station 1 has a load share entry. -/
def withEntry (age : Nat) (s : State) : State :=
  { s with share := { s.share with entries := some (shareEntry age) :: List.replicate 7 none } }

theorem test_loadEntryAgeOut :
    (after (.loadEntryAgeOut 0) (withEntry 3599000000 (recording 600 0))).share.entry 1 = none := by decide +kernel

/-- Station 4 recording, OPEN_OWN block 1 filled to slot 412, blocks 2 and 3 erased, and a record waiting. -/
def storing (op : Option ProgOp) : State :=
  withStore (fun t => { t with
    blocks := { state := .config } :: { state := .openOwn, sequence := 7, fill := 412 } ::
      List.replicate 254 { state := .erased },
    erasedList := [2, 3], ownQueue := [recordOf 4 19], programmer := op }) (recording 600 0)

theorem test_programmerStart :
    (after .programmerStart (storing none)).store.programmer = some (.programHead .own 1 412) := by decide +kernel

theorem test_slotProgramComplete :
    (after (.slotProgramComplete true) (storing (some (.programHead .own 1 412)))).store.die =
      [(1024 + 412, .image (recordOf 4 19))] := by decide +kernel

/-- R142: a failed program begins a relocation of its block. -/
theorem test_slotProgramComplete_fail :
    (after (.slotProgramComplete false) (storing (some (.programHead .own 1 412)))).store.relocation =
      some { area := .own, source := 1, sourceSequence := 7, recordSlot := 412 } := by decide +kernel

/-- R139: an erased candidate joins the back of the erased list. -/
theorem test_blockEraseComplete :
    (after (.blockEraseComplete true) (storing (some (.erase 9 .candidate)))).store.erasedList = [2, 3, 9] := by
  decide +kernel

/-- Station 4 relocating block 1 into block 2, slot 1 to be copied. -/
def relocating : State :=
  withStore (fun t => { t with
    die := [(1025, .image (recordOf 4 18))],
    blocks := { state := .config } :: { state := .relocating, sequence := 7, fill := 412 } ::
      { state := .copying, sequence := 8, replaces := 7, fill := 1 } :: List.replicate 253 { state := .erased },
    relocation := some { area := .own, source := 1, sourceSequence := 7, recordSlot := 412, target := some 2,
                         phase := .copying } }) (storing (some (.copy 1 2 1)))

theorem test_slotCopyComplete :
    (after (.slotCopyComplete true) relocating).store.die =
      [(1025, .image (recordOf 4 18)), (2049, .image (recordOf 4 18))] := by decide +kernel

/-- A READ of terminal 12 that waits for the programmer. -/
def waitingRead : WaitingRead := { terminal := 12, taken := 0, repeated := false, view := none, serial := 0 }

/-- A state with that READ waiting. -/
def withRead (s : State) : State := { s with readout := { s.readout with waiting := [waitingRead] } }

theorem test_storeReadServed :
    (after .storeReadServed (withRead (withWindow (window4 .interval true) (recording 600 0)))).link.queue.map
      (fun e => e.kind) = [.items] := by decide +kernel

theorem test_scanComplete :
    (after (.scanComplete [] []) State.reset).ctrl.state = .setup ∧
      (after (.scanComplete [] []) State.reset).store.erasedList.length = 255 := by decide +kernel

theorem test_lineIdle : (after .lineIdle State.reset).link.receiver = .idle := by decide +kernel

theorem test_trafficForAnotherNode :
    (after (.trafficForAnotherNode 0x6D 12 5 []) (recording 600 0)).link.receiver = .afterFrame := by decide +kernel

/-! Witnesses: for every statement with hypotheses, a state and operands that meet them, one for each clause. -/

theorem receives_of (s : State) (k : FrameKind) (sender target : Byte) (payload : List Byte)
    (h : s.link.attempt = none ∧ s.link.receiver = .idle ∧ frameAllowed k sender.toNat target.toNat payload = true ∧
      sender.toNat ≠ s.ctrl.station ∧ acceptedHere s.ctrl.station k target.toNat = true) :
    s.receives k sender target payload :=
  ⟨⟨h.1, .inl h.2.1⟩, h.2.2.1, h.2.2.2.1, h.2.2.2.2⟩

theorem acceptedReading_of (f : List Byte) (st : AnalyserStatus)
    (h : f.length = 8 ∧ f.head? = some syncByte ∧ crc16 (f.take 6) = field f 6 2 ∧ field f 1 1 ≤ 15 ∧
      analyserStatusOf (field f 2 1) = some st) : acceptedReading f st :=
  ⟨h.1, h.2.1, h.2.2.1, h.2.2.2.1, h.2.2.2.2⟩

theorem witness_StepRunsTheFrontCommand :
    ({ State.reset with pending := [.lineIdle, .minuteClose] } : State).pending = .lineIdle :: [.minuteClose] := rfl

theorem witness_ResetCutsOffTheProgrammer_idle : State.reset.store.programmer = none := rfl

theorem witness_ResetCutsOffTheProgrammer_slot :
    (storing (some (.programHead .own 1 1023))).store.programmer = some (.programHead .own 1 1023) ∧
      (ProgOp.programHead .own 1 1023).slot? = some (1, 1023) := ⟨rfl, rfl⟩

theorem witness_ResetCutsOffTheProgrammer_erase :
    (storing (some (.erase 255 .candidate))).store.programmer = some (.erase 255 .candidate) := rfl

theorem witness_AcceptedReadingIsCaptured :
    acceptedReading (readingFrame 15 2 (-1)) .calibrating ∧ (recording 600 0).intake.partialFrame = [] ∧
      (recording 600 0).intake.channels[field (readingFrame 15 2 (-1)) 1 1]? = some {} :=
  ⟨acceptedReading_of _ _ (by decide +kernel), rfl, by decide +kernel⟩

/-- A state whose channel 3 has an accumulator. -/
def withAcc (a : MinuteAcc) (s : State) : State :=
  { s with intake := { s.intake with channels := List.replicate 3 {} ++ { acc := a } :: List.replicate 12 {} } }

/-- The hypotheses of MeasuringReadingIsAccumulated with a value on channel 3 and an accumulator. -/
def measuringCase (a : MinuteAcc) (v : Int) : Prop :=
  let s := withAcc a (recording 600 0)
  let f := readingFrame 3 0 v
  acceptedReading f .measuring ∧ s.intake.partialFrame = [] ∧ s.intake.channels[field f 1 1]? = some { acc := a } ∧
    s.serving ∧ roleOf s.config (field f 1 1) = some (.component 1) ∧
    takenValue s.config (some (.component 1)) .measuring (fieldSigned f 3 3) = some v

theorem witness_MeasuringReadingIsAccumulated_crowded :
    measuringCase { count := 1023, sum := 7 } 8388607 ∧ 1023 ≤ ({ count := 1023, sum := 7 } : MinuteAcc).count :=
  ⟨⟨acceptedReading_of _ _ (by decide +kernel), rfl, by decide +kernel, .inr (.inr rfl), by decide +kernel, by decide +kernel⟩,
    by decide⟩

theorem witness_MeasuringReadingIsAccumulated_above :
    measuringCase { count := 1022, sum := 2147483647 } 1 ∧ 2147483647 < (2147483647 : Int) + 1 :=
  ⟨⟨acceptedReading_of _ _ (by decide +kernel), rfl, by decide +kernel, .inr (.inr rfl), by decide +kernel, by decide +kernel⟩,
    by decide⟩

theorem witness_MeasuringReadingIsAccumulated_below :
    measuringCase { count := 1022, sum := -2147483647 } (-1) ∧ (-2147483647 : Int) + -1 < -2147483647 :=
  ⟨⟨acceptedReading_of _ _ (by decide +kernel), rfl, by decide +kernel, .inr (.inr rfl), by decide +kernel, by decide +kernel⟩,
    by decide⟩

theorem witness_MeasuringReadingIsAccumulated_within :
    measuringCase { count := 1022, sum := 2147483646 } 1 ∧ (2147483646 : Int) + 1 ≤ 2147483647 :=
  ⟨⟨acceptedReading_of _ _ (by decide +kernel), rfl, by decide +kernel, .inr (.inr rfl), by decide +kernel, by decide +kernel⟩,
    by decide⟩

/-- The common hypotheses of the other clauses of MeasuringReadingIsAccumulated, for a status on a channel with a role. -/
def statusCase (channel code : Nat) (st : AnalyserStatus) (role : Role) : Prop :=
  let f := readingFrame channel code 9
  acceptedReading f st ∧ (recording 600 0).intake.partialFrame = [] ∧
    (recording 600 0).intake.channels[field f 1 1]? = some {} ∧ (recording 600 0).serving ∧
    roleOf (recording 600 0).config (field f 1 1) = some role

/-- Channel 3 is component 1, channel 8 the load. -/
theorem witness_MeasuringReadingIsAccumulated_overrange :
    (statusCase 3 1 .overrange (.component 1) ∧ (recording 600 0).config.components[0]? = some (some nox)) ∧
      statusCase 8 1 .overrange .load :=
  ⟨⟨⟨acceptedReading_of _ _ (by decide +kernel), rfl, by decide +kernel, .inr (.inr rfl), by decide +kernel⟩,
    by decide +kernel⟩, acceptedReading_of _ _ (by decide +kernel), rfl, by decide +kernel, .inr (.inr rfl), by decide +kernel⟩

theorem witness_MeasuringReadingIsAccumulated_notMeasuring :
    statusCase 0 2 .calibrating .o2 ∧ statusCase 3 4 .fault (.component 1) ∧
      AnalyserStatus.calibrating.isMeasuring = false ∧ AnalyserStatus.fault.isMeasuring = false :=
  ⟨⟨acceptedReading_of _ _ (by decide +kernel), rfl, by decide +kernel, .inr (.inr rfl), by decide +kernel⟩,
    ⟨acceptedReading_of _ _ (by decide +kernel), rfl, by decide +kernel, .inr (.inr rfl), by decide +kernel⟩, rfl, rfl⟩

theorem witness_RejectedAndAbandonedFramesAreCounted_check :
    let f := bytes [0xA5, 3, 0, 0xA5, 1, 0, 0, 0]
    f.length = 8 ∧ f.head? = some syncByte ∧ crc16 (f.take 6) ≠ field f 6 2 := by decide +kernel

theorem witness_RejectedAndAbandonedFramesAreCounted_channel :
    let f := readingFrame 16 0 0
    f.length = 8 ∧ f.head? = some syncByte ∧ 15 < field f 1 1 := by decide +kernel

theorem witness_RejectedAndAbandonedFramesAreCounted_status :
    let f := readingFrame 15 5 0
    f.length = 8 ∧ f.head? = some syncByte ∧ analyserStatusOf (field f 2 1) = none := by decide +kernel

theorem witness_RejectedAndAbandonedFramesAreCounted_abandon :
    ({ State.reset with intake := { partialFrame := [syncByte] } } : State).intake.partialFrame ≠ [] := by decide

/-- A state whose channel 3 has an entry. -/
def withChannel (e : ChannelEntry) (s : State) : State :=
  { s with intake := { s.intake with channels := List.replicate 3 {} ++ e :: List.replicate 12 {} } }

/-- The common hypotheses of SettleSlotFollowsReturnsAndDropouts. -/
def settleCase (e : ChannelEntry) (status : Nat) (st : AnalyserStatus) : Prop :=
  let s := withChannel e (recording 600 0)
  let f := readingFrame 3 status 9
  acceptedReading f st ∧ s.intake.partialFrame = [] ∧ s.intake.channels[field f 1 1]? = some e ∧ s.config? = some image

theorem witness_SettleSlotFollowsReturnsAndDropouts_return :
    settleCase { latest := some { status := .fault, value := none } } 0 .measuring ∧
      AnalyserStatus.measuring.isMeasuring = true ∧ AnalyserStatus.fault.isMeasuring = false :=
  ⟨⟨acceptedReading_of _ _ (by decide +kernel), rfl, by decide +kernel, rfl⟩, rfl, rfl⟩

theorem witness_SettleSlotFollowsReturnsAndDropouts_dropout :
    settleCase { settle := 1 } 2 .calibrating ∧ AnalyserStatus.calibrating.isMeasuring = false ∧
      settleCase { acc := { returnMark := true } } 2 .calibrating :=
  ⟨⟨acceptedReading_of _ _ (by decide +kernel), rfl, by decide +kernel, rfl⟩, rfl,
    ⟨acceptedReading_of _ _ (by decide +kernel), rfl, by decide +kernel, rfl⟩⟩

theorem witness_SettleSlotFollowsReturnsAndDropouts_first :
    settleCase {} 1 .overrange ∧ AnalyserStatus.overrange.isMeasuring = true :=
  ⟨⟨acceptedReading_of _ _ (by decide +kernel), rfl, by decide +kernel, rfl⟩, rfl⟩

theorem witness_AccumulatorsStayWithinLimits :
    (withAcc { count := 1023, sum := -2147483647 } (recording 600 0)).accumulatorsBounded ∧
      ∃ t, step (withAcc { count := 1023, sum := -2147483647 } (recording 600 0)) = .next t :=
  ⟨by unfold State.accumulatorsBounded MinuteAcc.bounded; decide +kernel, _, rfl⟩

theorem witness_RoundingIsToNearestAwayFromZero :
    (0 : Nat) < 2 ∧ 2 * (((2 : Nat) : Int) * roundDiv (-5) 2 - -5).natAbs = 2 := by decide

/-- The minute 10:29 has 60 s behind it; nothing staged, or 30 s. -/
theorem witness_MinuteCloseEntersTheNextMinute :
    (recording 629 60000000).clock.time = some (timeAt 629 60000000) ∧ (timeAt 629 60000000).atRangeEnd = false ∧
      (recording 629 60000000).clock.staged = none ∧ (timeAt 629 60000000).minute % 30 = 29 := by decide +kernel

theorem witness_MinuteCloseEntersTheNextMinute_holds :
    let t : StationTime := { year := 2099, day := 365, minute := 1439, micros := 59999999 }
    (station .untimed).clock.time = none ∧ t.atRangeEnd = true ∧
      ({ recording 0 0 with clock := { time := some t } } : State).clock.time = some t := by decide +kernel

theorem witness_MinuteCloseEntersTheNextMinute_staged :
    let s := { recording 628 60000000 with
      clock := { time := some (timeAt 628 60000000), staged := some { applied := 30, requested := 45, terminal := 12 } } }
    s.clock.time = some (timeAt 628 60000000) ∧ (timeAt 628 60000000).atRangeEnd = false ∧
      s.clock.staged = some { applied := 30, requested := 45, terminal := 12 } := by decide +kernel

theorem witness_OpenIntervalTakesTheMinute :
    let s := recording 628 60000000
    s.clock.time = some (timeAt 628 60000000) ∧ (timeAt 628 60000000).atRangeEnd = false ∧
      (timeAt 628 60000000).minute % 30 ≠ 29 ∧ s.config? = some image ∧ s.period.recording = .opened ∧
      s.period.openInterval = some (emptyInterval (timeAt 628 0).interval) := by decide +kernel

/-- A channel entry that closes its minute VALID with a mean. -/
def meanOf (v : Int) : ChannelEntry := { acc := { sum := v * 20, count := 20 } }

/-- Station 4 recording, a mean on every channel with a role: NOX, O2, H2O, T, p, FLOW and the load. -/
def measuringAll (nox o2 h2o temp press flow : Int) : State :=
  { recording 628 60000000 with
    intake := { channels := [meanOf o2, meanOf h2o, meanOf temp, meanOf nox, {}, {}, meanOf press, meanOf flow, meanOf 4200] ++
      List.replicate 7 {} },
    share := { entries := [none, none, none, some { shareEntry 0 with
      latest := { minute := { year := 2031, day := 143, minute := 627 }, load := 4200, status := .operating } }] ++
      List.replicate 4 none, fireSeen := true } }

/-- A channel's mean is the one its entry was made with. -/
theorem measured_of {s : State} {m : ConfigImage} {role : Option Nat} {v : Int} (ch : Nat) (h : role = some ch ∧
    s.intake.channels[ch]? = some (meanOf v) ∧ ((meanOf v).minuteValue m.minReadings).state = .valid ∧
    (meanOf v).acc.mean = some v) : s.measured m role v :=
  ⟨ch, meanOf v, h⟩

/-- 11 % O2, 15 % H2O, 120 degrees and 101.3 kPa: the three steps stay within the limits, and the flow is apportioned. -/
theorem witness_OpenIntervalTakesTheMinute_component :
    let s := measuringAll 15240 1100 1500 1200 10130 900000
    image.components[0]? = some (some nox) ∧
      (emptyInterval (timeAt 628 0).interval).components[0]? = some (some { sum := 0 }) ∧
      s.measured image (some nox.channel) 15240 ∧ s.measured image image.o2 1100 ∧ s.measured image image.h2o 1500 ∧
      s.measured image image.temp 1200 ∧ s.measured image image.press 10130 ∧
      s.apportioned image (timeAt 628 60000000) 900000 :=
  ⟨by decide, by decide, measured_of 3 (by decide +kernel), measured_of 0 (by decide +kernel),
    measured_of 1 (by decide +kernel), measured_of 2 (by decide +kernel), measured_of 6 (by decide +kernel), 900000, 900000, by decide,
    measured_of 7 (by decide +kernel), rfl, { own := 4200, total := 4200, substituted := false }, by decide +kernel,
    by decide +kernel⟩

/-- R29 to R31 on the greatest mean with the peripherals at their limits: the third step leaves ±2,147,483,647. -/
theorem witness_OpenIntervalTakesTheMinute_saturated :
    (measuringAll 107374182 1800 4000 6000 8000 0).measured image (some nox.channel) 107374182 ∧
      2147483647 < (roundDiv (roundDiv (roundDiv (107374182 * (2 * 6000 + 5463) * 20265) (5463 * (2 * 8000)) * 10000) 6000 *
        (2100 - 1100)) 300).natAbs :=
  ⟨measured_of 3 (by decide +kernel), by decide +kernel⟩

/-- Station 4 recording, O2 on channel 0 with an entry, its value held. -/
def holding (e : ChannelEntry) (h : HeldValue) : State :=
  { recording 628 60000000 with intake := { channels := e :: List.replicate 15 {} }, norm := { o2 := h } }

/-- The common hypotheses of MinuteCloseHoldsThePeripherals. -/
def holdCase (e : ChannelEntry) (h : HeldValue) : Bool :=
  let s := holding e h
  s.clock.time = some (timeAt 628 60000000) && !(timeAt 628 60000000).atRangeEnd && s.config? == some image &&
    image.o2 == some 0 && s.intake.channels[0]? == some e

theorem witness_MinuteCloseHoldsThePeripherals_valid :
    let e : ChannelEntry := { acc := { sum := 17000, count := 20 } }
    holdCase e {} = true ∧ (e.minuteValue image.minReadings).state = .valid ∧ e.acc.mean = some 850 := by decide +kernel

theorem witness_MinuteCloseHoldsThePeripherals_absent :
    holdCase { acc := { sum := 17000, count := 19 } } {} = true ∧
      (({ acc := { sum := 17000, count := 19 } } : ChannelEntry).minuteValue image.minReadings).state ≠ .valid := by
  decide +kernel

theorem witness_MinuteCloseHoldsThePeripherals_held :
    let h : HeldValue := { value := some 850, age := 2 }
    holdCase {} h = true ∧ (({} : ChannelEntry).minuteValue image.minReadings).state ≠ .valid ∧ (holding {} h).norm.o2.value = some 850 ∧
      ¬ (holding {} h).norm.o2.age < image.holdMinutes := by decide +kernel

/-- R24: a value held for fewer minutes than the hold minutes. -/
theorem witness_MinuteCloseHoldsThePeripherals_holding :
    let h : HeldValue := { value := some 850, age := 1 }
    holdCase {} h = true ∧ (({} : ChannelEntry).minuteValue image.minReadings).state ≠ .valid ∧ h.value = some 850 ∧
      h.age < image.holdMinutes := by decide +kernel

/-- A configuration without a FLOW channel; the state meets the hypotheses of OpenIntervalTakesTheMinute as well. -/
theorem witness_MinuteCloseHoldsThePeripherals_none :
    let s := { holding {} {} with ctrl := { state := .recording, station := 4,
                                            inForce := some { image := { image with flow := none }, sequence := 1 } } }
    s.clock.time = some (timeAt 628 60000000) ∧ s.config? = some { image with flow := none } ∧
      s.period.recording = .opened ∧ s.period.openInterval = some (emptyInterval (timeAt 628 0).interval) := by decide +kernel

theorem witness_IntervalCloseRecordsTheInterval :
    let s := recording 629 60000000
    (s.clock.time = some (timeAt 629 60000000) ∧ (timeAt 629 60000000).atRangeEnd = false ∧
      (timeAt 629 60000000).minute % 30 = 29 ∧ s.config? = some image ∧ s.period.recording = .opened ∧
      s.period.openInterval = some (emptyInterval (timeAt 629 0).interval) ∧ s.ctrl.state = .recording ∧
      s.link.queue.length < 7) ∧ s.ownRoom :=
  ⟨by decide +kernel, by unfold State.ownRoom; decide +kernel⟩

/-- Station 4 recording at the end of a minute of the last day of 2031, 47 intervals of it recorded. -/
def inLastDay (minute : Nat) : State :=
  let s := recording minute 60000000
  let t : StationTime := { timeAt minute 60000000 with day := 365 }
  { s with
    clock := { time := some t },
    period := { recording := .opened, openInterval := some (emptyInterval t.interval),
                openDay := some { day := t.dayId, intervals := 47 }, summaryYear := some 2031 } }

theorem witness_IntervalCloseRecordsTheInterval_day :
    let s := inLastDay 1439
    let t : StationTime := { timeAt 1439 60000000 with day := 365 }
    s.clock.time = some t ∧ t.atRangeEnd = false ∧ t.minute = 1439 ∧ s.config? = some image ∧
      s.period.recording = .opened ∧ s.period.openInterval = some (emptyInterval t.interval) ∧
      (emptyInterval t.interval).id = t.interval ∧ s.period.openDay = some { day := t.dayId, intervals := 47 } ∧
      s.period.summaryYear = some 2031 ∧ s.store.failed = false ∧ s.store.ownQueue.length ≤ 4 ∧
      t.day = daysInYear t.year := by decide +kernel

theorem witness_IntervalCloseRecordsTheInterval_openDay :
    let s := inLastDay 1409
    let t : StationTime := { timeAt 1409 60000000 with day := 365 }
    s.clock.time = some t ∧ t.minute % 30 = 29 ∧ t.minute < 1439 ∧ s.period.openDay = some { day := t.dayId, intervals := 47 } ∧
      s.period.openInterval = some (emptyInterval t.interval) ∧ (emptyInterval t.interval).id.index ≠ 47 := by decide +kernel

/-- R57, R60: the last day of the year is recorded with its 48 intervals, and the summary of 2032 begins. -/
theorem test_minuteClose_year :
    (after .minuteClose (inLastDay 1439)).store.ownQueue.map (fun r => r.kind) =
        [some .interval, some .day, some .year1, some .year2] ∧
      (after .minuteClose (inLastDay 1439)).period.summaryYear = some 2032 := by decide +kernel

/-- The open interval is the running one, 20, and 19 is the last own interval id. -/
def advancing : State :=
  { recording 629 60000000 with
    period := { recording := .opened, openInterval := some (emptyInterval (timeAt 629 0).interval),
                lastOwn := some (timeAt 599 0).interval },
    pending := [.minuteClose] }

theorem witness_NoIntervalIsRecordedTwice : advancing.intervalsAdvance ∧ ∃ t, step advancing = .next t := by
  refine ⟨⟨?_, ?_, ?_⟩, _, rfl⟩
  · intro t h; cases h; decide
  · intro _; exact ⟨rfl, rfl⟩
  · intro _; exact ⟨_, _, rfl, rfl, by decide, fun l h => by cases h; decide⟩

/-- Station 4 recording, the furnace at its temperature, with a machine state and a CLEAN level. -/
def burning (m : AbnormalMachine) (fire clean : Bool) : State :=
  withPlant (fun p => { p with fire := fire, clean := clean, machine := m }) (recording 600 0)

theorem witness_CleanBeginsAndEndsAnEpisode_begin :
    let s := burning .normal true false
    s.serving ∧ s.plant.machine = .normal ∧ s.plant.fire = true ∧ s.plant.clean = false ∧ s.ownRoom ∧
      0 < (s.config?.map (fun m => m.continuousLimit)).getD 240 ∧
      s.plant.yearCount < (s.config?.map (fun m => m.yearBudget)).getD 3600 :=
  ⟨.inr (.inr rfl), rfl, rfl, rfl, by unfold State.ownRoom; decide +kernel, by decide +kernel, by decide +kernel⟩

theorem witness_CleanBeginsAndEndsAnEpisode_end :
    let s := burning .abnormal true true
    s.serving ∧ s.plant.machine = .abnormal ∧ s.plant.clean = true ∧ s.ownRoom :=
  ⟨.inr (.inr rfl), rfl, rfl, by unfold State.ownRoom; decide +kernel⟩

theorem witness_CleanBeginsAndEndsAnEpisode_fire :
    ((burning .normal false true).serving ∧ (burning .normal false true).plant.fire = false ∧
      (burning .normal false true).ownRoom) ∧
    (burning .abnormal true true).plant.fire = true ∧
    ((burning (.cutoff .trip) false true).plant.fire = false ∧
      (burning (.cutoff .trip) false true).plant.machine.isCutoff = true) ∧
    ((burning .normal false false).plant.fire = false ∧ (burning .normal false false).plant.clean = false) ∧
    (burning .normal false false).plant.feed = !true :=
  ⟨⟨.inr (.inr rfl), rfl, by unfold State.ownRoom; decide +kernel⟩, rfl, ⟨rfl, rfl⟩, ⟨rfl, rfl⟩, rfl⟩

theorem witness_TripTakesTheMachineToCutoff :
    let s := burning .abnormal true true
    s.serving ∧ s.plant.machine.isCutoff = false ∧ s.plant.trip = false := ⟨.inr (.inr rfl), rfl, rfl⟩

/-- Station 4 untimed, its machine abnormal, one minute from the limit of 240. -/
def untimed (m : AbnormalMachine) (continuous : Nat) : State :=
  withPlant (fun p => { p with untimed := some 60000000, machine := m, continuous := continuous, abnormalFlag := true })
    (station .untimed)

theorem witness_UntimedMinuteIsCounted :
    (untimed .abnormal 239).plant.untimed = some 60000000 ∧ (untimed .abnormal 239).plant.machine = .abnormal ∧
      (untimed .normal 0).plant.untimed = some 60000000 ∧ (untimed .normal 0).plant.machine ≠ .abnormal := by
  decide +kernel

theorem witness_OnlyReleaseEndsCutoff :
    (burning (.cutoff .trip) true false).plant.machine = .cutoff .trip ∧
      (∃ t, exec (.inputEdge .fire false) (burning (.cutoff .trip) true false) = .next t) ∧
      (∀ sender target payload, Instr.inputEdge .fire false ≠ .release sender target payload) ∧
      (∀ straps fire feed clean trip, Instr.inputEdge .fire false ≠ .powerOnReset straps fire feed clean trip) ∧
      (burning (.cutoff .trip) true false).ctrl.state ≠ .scan :=
  ⟨rfl, ⟨_, rfl⟩, nofun, nofun, by decide⟩

theorem witness_OutputLinesStayAsDecided :
    (recording 600 0).linesAgree ∧ ∃ t, step (recording 600 0) = .next t :=
  ⟨by unfold State.linesAgree; decide +kernel, _, rfl⟩

theorem witness_BrokenFrameWaitsForIdle :
    (recording 600 0).link.attempt = none ∧ (recording 600 0).link.receiver ≠ .waitIdle := by decide +kernel

theorem witness_NoFrameIsTakenBeforeIdle :
    carriesFrame (.start 12 4 []) = true ∧ State.reset.link.attempt = none ∧ State.reset.link.receiver = .waitIdle := by
  decide

theorem witness_FailedChecksAndClashesAreCounted_check :
    (recording 600 0).hearing ∧ charactersPass (bytes [0x6D, 12, 4, 0, 0, 0]) = false :=
  ⟨⟨rfl, .inl rfl⟩, by decide +kernel⟩

theorem witness_FailedChecksAndClashesAreCounted_clash :
    (recording 600 0).hearing ∧ (recording 600 0).ctrl.station < 256 ∧ frameKindOf (0x12 : Byte).toNat = some .mark ∧
      frameAllowed .mark 4 (0 : Byte).toNat (bytes [31, 0, 143, 20]) = true :=
  ⟨⟨rfl, .inl rfl⟩, by decide +kernel, by decide +kernel, by decide +kernel⟩

theorem witness_TrafficForOthersIsDiscarded :
    (recording 600 0).hearing ∧ frameKindOf (0x61 : Byte).toNat = some .statusReq ∧
      frameAllowed .statusReq (12 : Byte).toNat (5 : Byte).toNat (bytes [0]) = true ∧
      (12 : Byte).toNat ≠ (recording 600 0).ctrl.station ∧
      acceptedHere (recording 600 0).ctrl.station .statusReq (5 : Byte).toNat = false :=
  ⟨⟨rfl, .inl rfl⟩, by decide +kernel, by decide +kernel, by decide +kernel, by decide +kernel⟩

theorem witness_AttemptCarriesTheQueueHead :
    let s := withLink (fun l => { l with queue := [entry .result 0 9] }) (recording 600 0)
    s.link.attempt = none ∧ s.link.receiver = .idle ∧ ∃ e ∈ s.link.queue, e.sending = false :=
  ⟨rfl, rfl, entry .result 0 9, .head _, rfl⟩

/-- The common hypotheses of the ends of an attempt. -/
def attemptCase (e : TxEntry) (l r : List TxEntry) (s : State) : Bool :=
  s.link.attempt == some 0 && s.link.queue == l ++ e :: r && e.sending && (l ++ r).all (fun x => !x.sending)

/-- An entry in transmission. -/
def sendingEntry (k : FrameKind) (deadline errors : Nat) : TxEntry :=
  { entry k 3 deadline with errors := errors, sending := true }

/-- An attempt with that entry, a LOAD waiting after it, at a time. -/
def attemptOf (e : TxEntry) (now : Nat) : State :=
  withLink (fun l => { l with attempt := some 0, receiver := .assembling, deadlineTimer := now,
                              queue := [entry .result 0 90] ++ e :: [entry .load 5 90] }) (recording 600 0)

theorem witness_LostArbitrationReturnsTheEntry_waits :
    let e := sendingEntry .mark 90 0
    attemptCase e [entry .result 0 90] [entry .load 5 90] (attemptOf e 89) = true ∧
      (attemptOf e 89).link.deadlineTimer < e.deadline ∧
      ∀ x ∈ [entry .result 0 90] ++ [entry .load 5 90], x.replaces e = false := by decide +kernel

theorem witness_LostArbitrationReturnsTheEntry_replaced :
    let e := sendingEntry .load 90 0
    attemptCase e [entry .result 0 90] [entry .load 5 90] (attemptOf e 89) = true ∧
      (attemptOf e 89).link.deadlineTimer < e.deadline ∧
      ∃ x ∈ [entry .result 0 90] ++ [entry .load 5 90], x.replaces e = true := by decide +kernel

theorem witness_LostArbitrationReturnsTheEntry_expired :
    let e := sendingEntry .mark 90 0
    attemptCase e [entry .result 0 90] [entry .load 5 90] (attemptOf e 90) = true ∧
      e.deadline ≤ (attemptOf e 90).link.deadlineTimer := by decide +kernel

theorem witness_TransmitErrorCountsAndDropsAtSixteen_waits :
    let e := sendingEntry .mark 90 14
    attemptCase e [entry .result 0 90] [entry .load 5 90] (attemptOf e 89) = true ∧
      (attemptOf e 89).link.deadlineTimer < e.deadline ∧
      (∀ x ∈ [entry .result 0 90] ++ [entry .load 5 90], x.replaces e = false) ∧ e.errors < 15 := by decide +kernel

theorem witness_TransmitErrorCountsAndDropsAtSixteen_drops :
    let e := sendingEntry .result 90 15
    attemptCase e [entry .result 0 90] [entry .load 5 90] (attemptOf e 89) = true ∧
      (attemptOf e 89).link.deadlineTimer < e.deadline ∧
      (∀ x ∈ [entry .result 0 90] ++ [entry .load 5 90], x.replaces e = false) ∧ 15 ≤ e.errors := by decide +kernel

theorem witness_CompletionRemovesTheEntry :
    attemptCase (sendingEntry .mark 90 0) [entry .result 0 90] [entry .load 5 90] (attemptOf (sendingEntry .mark 90 0) 89) =
      true := by decide +kernel

/-- One entry at its deadline, one within it. -/
theorem witness_WaitingEntryExpires :
    let s := withLink (fun l => { l with queue := [entry .result 0 9, entry .mark 0 8], deadlineTimer := 8 }) (recording 600 0)
    s.noneOverdue ∧ ∃ e ∈ s.link.queue, e.sending = false :=
  ⟨by unfold State.noneOverdue; decide +kernel, entry .result 0 9, .head _, rfl⟩

/-- Station 4 with a full queue of RESULTs, none in transmission. -/
def fullOfResults : State :=
  withLink (fun l => { l with queue := List.replicate 8 (entry .result 0 9) }) (recording 600 0)

theorem witness_TransmitQueueStaysInOrder :
    fullOfResults.oneSending ∧ fullOfResults.oneWaiting ∧ fullOfResults.offeringOrder ∧
      ∃ t, step fullOfResults = .next t := by
  refine ⟨by unfold State.oneSending; decide +kernel, ⟨?_, ?_, ?_⟩, by unfold State.offeringOrder; decide +kernel, _, rfl⟩
  · unfold atMostOne; decide +kernel
  · unfold atMostOne; decide +kernel
  · intro n; unfold atMostOne fullOfResults withLink entry; simp [FrameKind.frameClass]

/-- A reply and a RESULT in the queue, a READ that waits, and a START pending. -/
theorem witness_TransmitQueueStaysInOrder_addressed :
    let s := withLink (fun l => { l with queue := [entry .result 0 9, { entry .items 0 9 with terminal := some 15 }] })
      (withRead (recording 600 0))
    let s := { s with ctrl := { s.ctrl with pendingStart := some { terminal := 13, taken := 0 } } }
    s.repliesAddressed ∧ ∃ t, step s = .next t := by
  refine ⟨⟨?_, by decide, fun p h => by cases h; decide⟩, _, rfl⟩
  intro e h
  fin_cases h
  · exact .inl rfl
  · exact .inr ⟨rfl, 15, rfl, by decide, by decide⟩

theorem witness_TransmitQueueStaysInOrder_deadlines : fullOfResults.noneOverdue ∧ ∃ t, step fullOfResults = .next t :=
  ⟨by unfold State.noneOverdue; decide +kernel, _, rfl⟩

theorem witness_QueuesNeverHoldMoreThanEight :
    fullOfResults.queuesBounded ∧ ∃ t, step fullOfResults = .next t :=
  ⟨by unfold State.queuesBounded; decide +kernel, _, rfl⟩

theorem witness_FullQueueHoldsAWaitingResult :
    fullOfResults.oneSending ∧ fullOfResults.oneWaiting ∧ (∀ e ∈ fullOfResults.link.queue, e.regular) ∧
      8 ≤ fullOfResults.link.queue.length := by
  refine ⟨witness_TransmitQueueStaysInOrder.1, witness_TransmitQueueStaysInOrder.2.1, ?_, by decide +kernel⟩
  intro e h
  exact .inl (by rw [List.eq_of_mem_replicate h]; rfl)

theorem witness_MarkAcquiresTimeInUntimed :
    (station .untimed).receives .mark 1 0 (bytes [99, 1, 109, 46]) ∧ (station .untimed).ctrl.state = .untimed ∧
      usableMark (markId (bytes [99, 1, 109, 46])) = true :=
  ⟨receives_of _ _ _ _ _ (by decide +kernel), rfl, by decide +kernel⟩

/-- Station 4 untimed, with a last own interval id. -/
def untimedAfter (last : Option Id) : State := { station .untimed with period := { lastOwn := last } }

/-- The MARK of interval 20: intervals 19 and 20 lie between 18 and 21, and nothing lies before 21 again. -/
theorem witness_MarkAcquiresTimeInUntimed_period :
    let m := markId (bytes [31, 0, 143, 20])
    let l : Id := { year := 2031, day := 143, index := 18 }
    l.before m.nextInterval = true ∧ intervalNumber l + 1 < intervalNumber m.nextInterval ∧
      (untimedAfter (some l)).store.failed = false ∧ (untimedAfter (some l)).store.ownQueue.length ≤ 2 ∧
      m.nextInterval.before m.nextInterval = false ∧ (untimedAfter (some l)).store.indexYear = none := by decide +kernel

/-- R42: two intervals are missing. -/
theorem test_mark_gap :
    (after (.mark 1 0 (bytes [31, 0, 143, 20]))
      (untimedAfter (some { year := 2031, day := 143, index := 18 }))).store.ownQueue =
      [makeSlot .notice (noticeData 4 (some (timeAt 630 0)) .gap
        (idBytes { year := 2031, day := 143, index := 19 } ++ idBytes { year := 2031, day := 143, index := 20 } ++
          bytes [0, 0, 0, 2]))] := by decide +kernel

/-- The common hypotheses of MarkIsDecidedInRecording for the MARK of interval 20 of day 143. -/
def markCase (now : StationTime) (s : State) : Prop :=
  s.receives .mark 1 0 (bytes [31, 0, 143, 20]) ∧ s.ctrl.state = .recording ∧ s.clock.time = some now ∧
    usableMark (markId (bytes [31, 0, 143, 20])) = true

/-- 20 s remain of interval 20. -/
theorem witness_MarkIsDecidedInRecording_early :
    markCase (timeAt 629 40000000) (recording 629 40000000) ∧
      markId (bytes [31, 0, 143, 20]) = (timeAt 629 40000000).interval ∧ (timeAt 629 40000000).minute % 30 = 29 ∧
      (recording 629 40000000).clock.minuteLength * 1000000 - (timeAt 629 40000000).micros ≤ 20000000 :=
  ⟨⟨receives_of _ _ _ _ _ (by decide +kernel), rfl, rfl, by decide +kernel⟩, by decide +kernel, by decide, by decide +kernel⟩

theorem witness_MarkIsDecidedInRecording_record :
    (recording 629 40000000).config? = some image ∧ (recording 629 40000000).period.recording = .opened ∧
      (recording 629 40000000).period.openInterval = some (emptyInterval (timeAt 629 0).interval) ∧
      (recording 629 40000000).ownRoom :=
  ⟨rfl, rfl, rfl, by unfold State.ownRoom; decide +kernel⟩

/-- A microsecond more than 20 s remains of interval 20. -/
theorem witness_MarkIsDecidedInRecording_tooEarly :
    markCase (timeAt 629 39999999) (recording 629 39999999) ∧
      markId (bytes [31, 0, 143, 20]) = (timeAt 629 39999999).interval ∧
      20000000 < (recording 629 39999999).clock.minuteLength * 1000000 - (timeAt 629 39999999).micros :=
  ⟨⟨receives_of _ _ _ _ _ (by decide +kernel), rfl, rfl, by decide +kernel⟩, by decide +kernel, by decide +kernel⟩

/-- Station 4 in interval 21, interval 20 closed some time ago. -/
def afterClose (elapsed : Nat) : State :=
  { recording 630 0 with
    clock := { time := some (timeAt 630 0), lastClosed := some { id := (timeAt 629 0).interval, elapsed := elapsed } } }

theorem witness_MarkIsDecidedInRecording_late :
    markCase (timeAt 630 0) (afterClose 20000000) ∧ markId (bytes [31, 0, 143, 20]) ≠ (timeAt 630 0).interval ∧
      ∃ l, (afterClose 20000000).clock.lastClosed = some l ∧ l.id = markId (bytes [31, 0, 143, 20]) ∧
        l.elapsed ≤ 20000000 :=
  ⟨⟨receives_of _ _ _ _ _ (by decide +kernel), rfl, rfl, by decide +kernel⟩, by decide +kernel, _, rfl, by decide +kernel,
    Nat.le_refl _⟩

theorem witness_MarkIsDecidedInRecording_tooLate :
    markCase (timeAt 630 0) (afterClose 20000001) ∧ markId (bytes [31, 0, 143, 20]) ≠ (timeAt 630 0).interval ∧
      ∀ l, (afterClose 20000001).clock.lastClosed = some l → l.id = markId (bytes [31, 0, 143, 20]) →
        20000000 < l.elapsed :=
  ⟨⟨receives_of _ _ _ _ _ (by decide +kernel), rfl, rfl, by decide +kernel⟩, by decide +kernel,
    fun l h _ => by cases h; decide⟩

/-- The common hypotheses of TimeRequestSetsOrStages for 10:00:00 of day 143. -/
def timeCase (s : State) : Prop :=
  s.receives .time 12 0 (bytes [31, 0, 143, 2, 88, 0]) ∧ targetTimeOk (timeFields (bytes [31, 0, 143, 2, 88, 0])) = true ∧
    s.link.queue.length < 8

theorem witness_TimeRequestSetsOrStages_sets :
    timeCase (station .untimed) ∧ (station .untimed).ctrl.state = .untimed ∧
      timeCase (station .setup) ∧ (station .setup).ctrl.state = .setup :=
  ⟨⟨receives_of _ _ _ _ _ (by decide +kernel), by decide +kernel, by decide +kernel⟩, rfl,
    ⟨receives_of _ _ _ _ _ (by decide +kernel), by decide +kernel, by decide +kernel⟩, rfl⟩

/-- The target 10:00:00 is the running second, or 31 s before the running second. -/
theorem witness_TimeRequestSetsOrStages_stages :
    timeCase (recording 600 999999) ∧ (recording 600 999999).ctrl.state = .recording ∧
      ((timeFields (bytes [31, 0, 143, 2, 88, 0])).toTime.wholeSeconds : Int) - (timeAt 600 999999).wholeSeconds = 0 ∧
      timeCase (recording 600 31000000) ∧
      ((timeFields (bytes [31, 0, 143, 2, 88, 0])).toTime.wholeSeconds : Int) - (timeAt 600 31000000).wholeSeconds = -31 :=
  ⟨⟨receives_of _ _ _ _ _ (by decide +kernel), by decide +kernel, by decide +kernel⟩, rfl, by decide +kernel,
    ⟨receives_of _ _ _ _ _ (by decide +kernel), by decide +kernel, by decide +kernel⟩, by decide +kernel⟩

/-- The LOAD of minute 600 of day 143 from station 1. -/
def loadBytes : List Byte := bytes [1, 31, 0, 143, 2, 88, 0, 16, 104, 0]

/-- The report of those bytes. -/
def report : LoadReport :=
  { minute := { year := 2031, day := 143, minute := 600 }, load := 4200, status := .operating }

/-- The common hypotheses of LoadReportIsTakenByTheSendersEntry. -/
def loadCase (s : State) : Prop :=
  s.receives .load 1 0 loadBytes ∧ s.ctrl.state ≠ .failed ∧ loadReport (loadFields loadBytes) = some report ∧
    (∀ m, s.config? = some m → m.stackGroup = (loadFields loadBytes).group) ∧ s.share.entries.length = 8

theorem witness_LoadReportIsTakenByTheSendersEntry_first :
    loadCase (recording 600 0) ∧ (recording 600 0).share.entry (1 : Byte).toNat = none :=
  ⟨⟨receives_of _ _ _ _ _ (by decide +kernel), by decide +kernel, by decide +kernel,
    fun m h => by cases h; decide +kernel, by decide +kernel⟩, by decide +kernel⟩

theorem witness_LoadReportIsTakenByTheSendersEntry_later :
    loadCase (withEntry 0 (recording 600 0)) ∧
      (withEntry 0 (recording 600 0)).share.entry (1 : Byte).toNat = some (shareEntry 0) ∧
      minuteNumber (shareEntry 0).latest.minute < minuteNumber report.minute :=
  ⟨⟨receives_of _ _ _ _ _ (by decide +kernel), by decide +kernel, by decide +kernel,
    fun m h => by cases h; decide +kernel, by decide +kernel⟩, by decide +kernel, by decide +kernel⟩

/-- A state in which station 1 has reported the same minute. -/
def withSameMinute : State :=
  let s := recording 600 0
  { s with share := { s.share with entries := some { shareEntry 0 with latest := report } :: List.replicate 7 none } }

theorem witness_LoadReportIsTakenByTheSendersEntry_again :
    loadCase withSameMinute ∧
      withSameMinute.share.entry (1 : Byte).toNat = some { shareEntry 0 with latest := report } ∧
      minuteNumber report.minute ≤ minuteNumber ({ shareEntry 0 with latest := report } : ShareEntry).latest.minute :=
  ⟨⟨receives_of _ _ _ _ _ (by decide +kernel), by decide +kernel, by decide +kernel,
    fun m h => by cases h; decide +kernel, by decide +kernel⟩, by decide +kernel, by decide +kernel⟩

theorem witness_OldLoadEntryCeasesToBePresent :
    (withEntry 3600000000 (recording 600 0)).share.entry ((0 : Fin 8).val + 1) = some (shareEntry 3600000000) ∧
      (withEntry 0 (recording 600 0)).share.entry ((0 : Fin 8).val + 1) = some (shareEntry 0) := by
  decide +kernel

/-- Of the other entries one as old as the first, one older, one absent. -/
theorem witness_OldLoadEntryCeasesToBePresent_others :
    let s := { recording 600 0 with share := { entries :=
      [some (shareEntry 3599999999), some (shareEntry 3599999999), some (shareEntry 3600000000), none] } }
    s.share.entry 1 = some (shareEntry 3599999999) ∧ 0 < (shareEntry 3599999999).age ∧
      s.share.entry 2 = some (shareEntry 3599999999) ∧ s.share.entry 3 = some (shareEntry 3600000000) ∧
      (shareEntry 3599999999).age < (shareEntry 3600000000).age ∧ s.share.entry 4 = none := by
  decide +kernel

/-- R120: a report taken at the moment of the expiry keeps the entry. -/
theorem test_loadEntryAgeOut_refreshed :
    (after (.loadEntryAgeOut 0) (after (.load 1 0 loadBytes) (withEntry 3600000000 (recording 600 0)))).share.entry 1 =
      some { shareEntry 0 with latest := report, previous := some (shareEntry 0).latest } := by decide +kernel

/-- The own report is of minute 599: at minute 600 it counts, and alone makes the share. -/
theorem witness_OwnLoadNeverExceedsTheTotal :
    decideShare (withEntry 0 (recording 600 0)).share 1 { year := 2031, day := 143, minute := 600 } =
      some { own := 4200, total := 4200, substituted := false } := by decide +kernel

/-- The fire seen or not, the load channel's minute VALID with 4,200. -/
theorem witness_OwnLoadNeverExceedsTheTotal_report :
    let s := measuringAll 15240 1100 1500 1200 10130 900000
    s.clock.time = some (timeAt 628 60000000) ∧ (timeAt 628 60000000).atRangeEnd = false ∧ s.config? = some image ∧
      image.stackGroup ≠ 0 ∧ s.share.entries.length = 8 ∧ 1 ≤ s.ctrl.station ∧ s.ctrl.station ≤ 8 ∧
      s.link.queue.length < 7 ∧ s.share.fireSeen = true ∧ image.load = some 8 ∧
      s.intake.channels[8]? = some (meanOf 4200) ∧ (meanOf 4200).acc.mean = some ((4200 : Nat) : Int) ∧
      ((meanOf 4200).minuteValue image.minReadings).state = .valid ∧
      (({} : ChannelEntry).minuteValue image.minReadings).state ≠ .valid ∧ (recording 628 0).share.fireSeen = false := by
  decide +kernel

/-- Station 4 with partner 3's last interval id and a mirror intake queue. -/
def mirroring (last : Option Id) (queue : List SlotImage) (stalled : Bool) : State :=
  withStore (fun t => { t with mirrorQueue := queue, mirrorStalled := stalled })
    { recording 600 0 with
      mirror := { origins := {} :: {} :: { lastInterval := last } :: List.replicate 5 {} } }

/-- The common hypotheses of PartnerResultIsQueuedForMirroring. -/
def partnerCase (s : State) : Prop :=
  s.receives .result 3 0 (resultBytes (recordOf 3 19)) ∧ s.serving ∧
    resultContentOk (3 : Byte).toNat (resultSlot (resultBytes (recordOf 3 19))) = true ∧
    s.config.partners.contains (3 : Byte).toNat = true ∧
    newRecord (s.mirror.origin (3 : Byte).toNat) (resultSlot (resultBytes (recordOf 3 19))).kind
      (mirrorId (resultSlot (resultBytes (recordOf 3 19)))) = true ∧
    s.mirror.origins.length = 8

theorem witness_PartnerResultIsQueuedForMirroring_first :
    partnerCase (mirroring none [] false) ∧ (mirroring none [] false).store.mirrorStalled = false ∧
      (mirroring none [] false).store.mirrorQueue.length < 8 ∧
      ((mirroring none [] false).mirror.origin (3 : Byte).toNat).lastOf
        (resultSlot (resultBytes (recordOf 3 19))).kind = none :=
  ⟨⟨receives_of _ _ _ _ _ (by decide +kernel), .inr (.inr rfl), by decide +kernel, by decide +kernel, by decide +kernel,
    by decide +kernel⟩, by decide +kernel, by decide +kernel, by decide +kernel⟩

theorem witness_PartnerResultIsQueuedForMirroring_later :
    partnerCase (mirroring (some { year := 2031, day := 143, index := 18 }) (List.replicate 7 (recordOf 3 18)) false) ∧
      ((mirroring (some { year := 2031, day := 143, index := 18 }) [] false).mirror.origin (3 : Byte).toNat).lastOf
        (resultSlot (resultBytes (recordOf 3 19))).kind = some { year := 2031, day := 143, index := 18 } :=
  ⟨⟨receives_of _ _ _ _ _ (by decide +kernel), .inr (.inr rfl), by decide +kernel, by decide +kernel, by decide +kernel,
    by decide +kernel⟩, by decide +kernel⟩

theorem witness_PartnerResultIsQueuedForMirroring_dropped :
    partnerCase (mirroring none (List.replicate 8 (recordOf 3 18)) false) ∧
      8 ≤ (mirroring none (List.replicate 8 (recordOf 3 18)) false).store.mirrorQueue.length ∧
      partnerCase (mirroring none [] true) ∧ (mirroring none [] true).store.mirrorStalled = true :=
  ⟨⟨receives_of _ _ _ _ _ (by decide +kernel), .inr (.inr rfl), by decide +kernel, by decide +kernel, by decide +kernel,
    by decide +kernel⟩, by decide +kernel,
    ⟨receives_of _ _ _ _ _ (by decide +kernel), .inr (.inr rfl), by decide +kernel, by decide +kernel, by decide +kernel,
    by decide +kernel⟩, by decide +kernel⟩

theorem witness_PartnerResultIsQueuedForMirroring_droppedLater :
    partnerCase (mirroring (some { year := 2031, day := 143, index := 15 }) [] true) ∧
      (mirroring (some { year := 2031, day := 143, index := 15 }) [] true).store.mirrorStalled = true ∧
      ((mirroring (some { year := 2031, day := 143, index := 15 }) [] true).mirror.origin (3 : Byte).toNat).lastOf
        (resultSlot (resultBytes (recordOf 3 19))).kind = some { year := 2031, day := 143, index := 15 } :=
  ⟨⟨receives_of _ _ _ _ _ (by decide +kernel), .inr (.inr rfl), by decide +kernel, by decide +kernel, by decide +kernel,
    by decide +kernel⟩, rfl, by decide +kernel⟩

/-- R162: ids 16 to 18 are skipped, and the record itself is dropped. -/
theorem test_result_dropped :
    ((after (.result 3 0 (resultBytes (recordOf 3 19)))
      (mirroring (some { year := 2031, day := 143, index := 15 }) [] true)).mirror.origin 3).gap = 4 := by decide +kernel

theorem witness_ResultOfANonPartnerIsIgnored :
    (recording 600 0).receives .result 2 0 (resultBytes (recordOf 2 19)) ∧
      (∀ m, (recording 600 0).config? = some m → (2 : Byte).toNat ∉ m.partners) :=
  ⟨receives_of _ _ _ _ _ (by decide +kernel), fun m h => by cases h; decide +kernel⟩

theorem witness_ProgrammerTakesTheOwnHead :
    (storing none).headsTurn ∧ (storing none).store.ownQueue ≠ [] ∧ (storing none).store.ownStalled = false ∧
      (storing none).store.openBlock .own = some 1 ∧ ((storing none).block 1).owed = false ∧
      (storing none).store.erasedList ≠ [] :=
  ⟨⟨rfl, rfl, .inr (.inr rfl), rfl, rfl, rfl⟩, by decide +kernel, rfl, by decide +kernel, by decide +kernel, by decide +kernel⟩

theorem witness_OwnRecordIsProgrammedOrRelocated :
    let s := storing (some (.programHead .own 1 1023))
    s.store.programmer = some (.programHead .own 1 1023) ∧ s.store.ownQueue = recordOf 4 19 :: [] ∧
      s.store.blocks[1]? = some { state := .openOwn, sequence := 7, fill := 412 } ∧
      isBroadcastKind (recordOf 4 19) = true ∧ s.link.queue.length < 8 ∧
      isBroadcastKind (makeSlot .notice (noticeData 4 none .release [])) = false := by decide +kernel

/-- A MIRROR relocation from block 9 into block 10 that waits for a record, while the own head is programmed. -/
def waitingForRecord : State :=
  withStore (fun t => { t with
    blocks := (t.blocks.set 9 { state := .relocating, sequence := 5, fill := 8 }).set 10
      { state := .copying, sequence := 6, replaces := 5, fill := 7 },
    relocation := some { area := .mirror, source := 9, sourceSequence := 5, recordSlot := 7, target := some 10,
                         copyPosition := 7, phase := .record } }) (storing (some (.programHead .own 1 412)))

theorem witness_OwnRecordIsProgrammedOrRelocated_waiting :
    (storing none).store.relocation = none ∧ waitingForRecord.store.programmer = some (.programHead .own 1 412) ∧
      waitingForRecord.store.ownQueue = recordOf 4 19 :: [] ∧
      waitingForRecord.store.relocation =
        some { area := .mirror, source := 9, sourceSequence := 5, recordSlot := 7, target := some 10, copyPosition := 7,
               phase := .record } ∧
      waitingForRecord.store.blocks[1]? = some { state := .openOwn, sequence := 7, fill := 412 } ∧
      waitingForRecord.store.blocks[9]? = some { state := .relocating, sequence := 5, fill := 8 } ∧
      waitingForRecord.store.blocks[10]? = some { state := .copying, sequence := 6, replaces := 5, fill := 7 } := by
  decide +kernel

/-- Day 143 of 2031 indexed or not, its year the index year. -/
theorem witness_OwnRecordIsProgrammedOrRelocated_index :
    (recordOf 4 19).date = some (dayId 2031 143) ∧
      (withStore (fun t => { t with indexYear := some 2032 }) (storing none)).store.indexYear = some 2032 ∧
      (recordOf 4 19).origin = (storing none).ctrl.station ∧ (storing none).store.index = [] ∧
      (recordOf 3 19).origin ∈ (storing none).config.partners := by decide +kernel

/-- Station 4 programming the mirror intake queue's head at slot 412 of block 1, with or without a relocation. -/
def mirrorProgram (relocation : Option Relocation) : State :=
  withStore (fun t => { t with mirrorQueue := [recordOf 3 19], relocation := relocation })
    (storing (some (.programHead .mirror 1 412)))

theorem witness_OwnRecordIsProgrammedOrRelocated_mirror :
    let s := mirrorProgram none
    s.store.programmer = some (.programHead .mirror 1 412) ∧ s.store.mirrorQueue = recordOf 3 19 :: [] ∧
      s.store.blocks[1]? = some { state := .openOwn, sequence := 7, fill := 412 } ∧ 1 ≤ (recordOf 3 19).origin ∧
      (recordOf 3 19).origin ≤ 8 ∧ s.mirror.origins.length = 8 ∧ (recordOf 3 19).kind = some .interval ∧
      s.store.relocation = none ∧
      (mirrorProgram (some { area := .own, source := 9, sourceSequence := 5, recordSlot := 7 })).store.relocation ≠ none := by
  decide +kernel

theorem witness_EraseCompletionFreesOrRetiresTheBlock :
    (storing (some (.erase 255 .candidate))).store.programmer = some (.erase 255 .candidate) ∧
      (storing (some (.erase 255 .candidate))).store.blocks[255]? = some { state := .erased } := by decide +kernel

theorem witness_SlotCopyFillsOrAbandonsTheTarget :
    relocating.store.programmer = some (.copy 1 2 1) ∧ relocating.store.relocation.isSome = true ∧
      dieRead relocating.store.die (slotAddress 1 1) = some (.image (recordOf 4 18)) ∧
      relocating.store.blocks[2]? = some { state := .copying, sequence := 8, replaces := 7, fill := 1 } := by decide +kernel

/-- Station 4 relocating block 1 into block 2 in a phase, the programmer at work, one record waiting. -/
def relocatingAt (phase : RelocPhase) (op : ProgOp) (cleanup : List CleanupEntry) : State :=
  withStore (fun t => { t with
    programmer := some op, cleanup := cleanup,
    relocation := some { area := .own, source := 1, sourceSequence := 7, recordSlot := 412, target := some 2,
                         phase := phase } }) relocating

theorem witness_SlotCopyFillsOrAbandonsTheTarget_target :
    let s := relocatingAt .record (.programRecord 2 412) []
    let r : Relocation := { area := .own, source := 1, sourceSequence := 7, recordSlot := 412, target := some 2,
                            phase := .record }
    s.store.programmer = some (.programRecord 2 412) ∧ s.store.relocation = some r ∧
      s.store.queue r.area = recordOf 4 19 :: [] ∧
      s.store.blocks[2]? = some { state := .copying, sequence := 8, replaces := 7, fill := 1 } ∧
      (relocatingAt .copyEnd (.programCopyEnd 2 1023) []).store.programmer = some (.programCopyEnd 2 1023) ∧
      r.source ≠ 2 ∧ s.store.blocks[r.source]? = some { state := .relocating, sequence := 7, fill := 412 } := by decide +kernel

theorem witness_SlotCopyFillsOrAbandonsTheTarget_cleanup :
    let s := relocatingAt .cleanup (.erase 1 .cleanup) [{ block := 1 }]
    let u := relocatingAt .cleanup (.programRetiredHeader 1 9) [{ block := 1, erased := true }, { block := 3 }]
    s.store.programmer = some (.erase 1 .cleanup) ∧ s.store.cleanup = { block := 1 } :: [] ∧
      u.store.programmer = some (.programRetiredHeader 1 9) ∧
      u.store.cleanup = { block := 1, erased := true } :: [{ block := 3 }] ∧ u.store.relocation.isSome = true := by
  decide +kernel

/-- R144: COPY_END programmed makes the target the OPEN block and the source RETIRED. -/
theorem test_slotProgramComplete_copyEnd :
    ((after (.slotProgramComplete true) (relocatingAt .copyEnd (.programCopyEnd 2 413) [])).store.blocks.take 3).map
      (fun e => e.state) = [.config, .retired, .openOwn] := by decide +kernel

theorem witness_DieChangesOnlyAtCompletions :
    (∃ t, exec .minuteClose (recording 629 60000000) = .next t) ∧
      (∀ straps fire feed clean trip, Instr.minuteClose ≠ .powerOnReset straps fire feed clean trip) ∧
      (∀ pass, Instr.minuteClose ≠ .slotProgramComplete pass ∧ Instr.minuteClose ≠ .blockEraseComplete pass ∧
        Instr.minuteClose ≠ .slotCopyComplete pass) ∧
      (∀ erases headers, Instr.minuteClose ≠ .scanComplete erases headers) :=
  ⟨⟨_, rfl⟩, nofun, fun _ => ⟨nofun, nofun, nofun⟩, nofun⟩

theorem witness_DieKeepsItsCanonicalForm : relocating.dieWf = true ∧ ∃ t, step relocating = .next t :=
  ⟨by decide +kernel, _, rfl⟩

/-- Station 4 in SCAN over a die that holds a configuration of a station. -/
def scanning (n : Nat) : State :=
  { State.reset with
    ctrl := { station := 4 }, store := { die := [(0, .image (makeSlot .config (configData 1 n image)))] } }

theorem witness_ScanEndsInFailedSetupOrUntimed :
    (scanning 4).ctrl.state = .scan ∧ (scanning 4).ctrl.inForce = none ∧ foundConfig (scanning 4) = some (1, 4, image) ∧
      foundConfig (scanning 5) = some (1, 5, image) ∧ foundConfig State.reset = none := by decide +kernel

/-- Station 4 in SCAN with TRIP active over a die of 248 blocks with VOID headers. -/
def wornOut : State :=
  withStore (fun t => { t with die := (List.range 248).map (fun n => (slotAddress (n + 1) 0, .void)) })
    (withPlant (fun p => { p with trip := true }) (scanning 4))

/-- R153, R79: with the erases of all of them failed the store is FAILED, and with nothing handed over the machine is
NORMAL. -/
theorem witness_ScanEndsInFailedSetupOrUntimed_failed :
    let t := after (.scanComplete ((List.range 248).map (fun n => n + 1)) []) wornOut
    wornOut.ctrl.state = .scan ∧ wornOut.ctrl.inForce = none ∧ t.store.failed = true ∧ areaRecords .own t = [] ∧
      t.plant.machine = .normal := by decide +kernel

theorem witness_StatusIsServedInEveryState :
    (station .failed).receives .statusReq 15 0 (bytes [1]) ∧ statusSection (bytes [1]) = some .counts ∧
      (station .failed).link.queue.length < 8 :=
  ⟨receives_of _ _ _ _ _ (by decide +kernel), rfl, by decide +kernel⟩

theorem witness_WindowIsReplacedWhenDone :
    (recording 600 0).receives .window 12 4 windowBytes4 ∧ (recording 600 0).serving ∧
      (∃ f, windowFields windowBytes4 = some f ∧ windowAnswer f (recording 600 0) = .done) ∧
      (recording 600 0).link.queue.length < 8 ∧ (recording 600 0).readout.windows.length = 4 :=
  ⟨receives_of _ _ _ _ _ (by decide +kernel), .inr (.inr rfl), ⟨_, rfl, by decide +kernel⟩, by decide +kernel,
    by decide +kernel⟩

/-- The hypotheses of ReadReturnsTheHeaderThenItems for a window of terminal 12. -/
def readCase (repeated : Bool) (w : Window) : Prop :=
  let s := withWindow w (recording 600 0)
  let p := bytes [if repeated then 1 else 0]
  s.receives .read 12 4 p ∧ s.serving ∧ readRepeat p = some repeated ∧
    s.readout.window (12 : Byte).toNat = some w ∧ s.store.programmer = none ∧ s.readout.waiting = [] ∧
    s.link.queue.length < 8

theorem readCase_of (repeated : Bool) (w : Window)
    (h : (withWindow w (recording 600 0)).readout.window (12 : Byte).toNat = some w) : readCase repeated w := by
  have r : (recording 600 0).receives .read 12 4 (bytes [if repeated then 1 else 0]) :=
    receives_of _ _ _ _ _ (by cases repeated <;> decide +kernel)
  exact ⟨⟨r.hears, r.allowed, r.foreign, r.accepted⟩, .inr (.inr rfl), by cases repeated <;> rfl, h, rfl, rfl,
    show (recording 600 0).link.queue.length < 8 by decide +kernel⟩

/-- The header pending, and the header again at a repeat before any page. -/
theorem witness_ReadReturnsTheHeaderThenItems_header :
    (readCase false (window4 .interval true) ∧ (window4 .interval true).headerPending = true) ∧
      readCase true (window4 .interval false) ∧ (window4 .interval false).pageStart = none :=
  ⟨⟨readCase_of _ _ (by decide +kernel), rfl⟩, readCase_of _ _ (by decide +kernel), rfl⟩

/-- A page of each kind, and a repeat of one. -/
theorem witness_ReadReturnsTheHeaderThenItems_items :
    readCase false (window4 .interval false) ∧ readCase false (window4 .day false) ∧
      readCase false (window4 .notice false) ∧ readCase false (window4 .year false) ∧
      readCase true { window4 .interval false with pageStart := some (window4 .interval false).cursor } ∧
      (window4 .notice false).headerPending = false :=
  ⟨readCase_of _ _ (by decide +kernel), readCase_of _ _ (by decide +kernel), readCase_of _ _ (by decide +kernel),
    readCase_of _ _ (by decide +kernel), readCase_of _ _ (by decide +kernel), rfl⟩

/-- The READ taken at 0 is served just before its deadline, or just after it. -/
theorem witness_WaitingReadIsServedFirst :
    let s (now : Nat) := withLink (fun l => { l with deadlineTimer := now })
      (withRead (withWindow (window4 .interval true) (recording 600 0)))
    (s 0).store.programmer = none ∧ (s 0).readout.waiting = waitingRead :: [] ∧
      readWindow waitingRead (s 0) = some (window4 .interval true) ∧ (s 0).link.queue.length < 8 ∧
      (s 1999999).link.deadlineTimer < waitingRead.taken + 2000000 ∧
      waitingRead.taken + 2000000 < (s 2000001).link.deadlineTimer ∧
      (window4 .interval false).headerPending = false ∧ waitingRead.repeated = false := by decide +kernel

/-- The common hypotheses of ReleaseEndsACutoffAtRest. -/
def releaseCase (s : State) : Prop :=
  s.receives .release 12 4 [] ∧ s.serving ∧ s.link.queue.length < 8

theorem witness_ReleaseEndsACutoffAtRest_rest :
    releaseCase (burning (.cutoff .trip) false false) ∧ (burning (.cutoff .trip) false false).plant.machine = .cutoff .trip ∧
      (burning (.cutoff .trip) false false).plant.fire = false ∧
      (burning (.cutoff .trip) false false).plant.clean = false ∧
      (burning (.cutoff .trip) false false).plant.trip = false ∧ (burning (.cutoff .trip) false false).ownRoom :=
  ⟨⟨receives_of _ _ _ _ _ (by decide +kernel), .inr (.inr rfl), by decide +kernel⟩, rfl, rfl, rfl, rfl,
    by unfold State.ownRoom; decide +kernel⟩

theorem witness_ReleaseEndsACutoffAtRest_condition :
    releaseCase (burning .normal false false) ∧ (burning .normal false false).plant.machine.isCutoff = false ∧
      releaseCase (burning (.cutoff .limit) true false) ∧ (burning (.cutoff .limit) true false).plant.fire = true ∧
      releaseCase (burning (.cutoff .limit) false true) ∧ (burning (.cutoff .limit) false true).plant.clean = true :=
  ⟨⟨receives_of _ _ _ _ _ (by decide +kernel), .inr (.inr rfl), by decide +kernel⟩, rfl,
    ⟨receives_of _ _ _ _ _ (by decide +kernel), .inr (.inr rfl), by decide +kernel⟩, rfl,
    ⟨receives_of _ _ _ _ _ (by decide +kernel), .inr (.inr rfl), by decide +kernel⟩, rfl⟩

/-- The hypotheses of ConfigureReplacesAPartOfTheEditImage with a payload. -/
def configureCase (payload : List Byte) (part : ConfigurePart) : Prop :=
  (station .setup).receives .configure 12 4 payload ∧ (station .setup).ctrl.state = .setup ∧
    (station .setup).ctrl.pendingStart = none ∧ configurePart payload = some part ∧ (station .setup).link.queue.length < 8

/-- Channel 15 is in range and 16 is not. -/
theorem witness_ConfigureReplacesAPartOfTheEditImage :
    (configureCase (bytes [9, 15, 255, 255, 255, 255, 255]) (.channels [15, 255, 255, 255, 255, 255]) ∧
      partInRange 4 (.channels [15, 255, 255, 255, 255, 255]) = true) ∧
    configureCase (bytes [9, 16, 255, 255, 255, 255, 255]) (.channels [16, 255, 255, 255, 255, 255]) ∧
      partInRange 4 (.channels [16, 255, 255, 255, 255, 255]) = false :=
  ⟨⟨⟨receives_of _ _ _ _ _ (by decide +kernel), rfl, rfl, by decide +kernel, by decide +kernel⟩, by decide +kernel⟩,
    ⟨receives_of _ _ _ _ _ (by decide +kernel), rfl, rfl, by decide +kernel, by decide +kernel⟩, by decide +kernel⟩

/-- Station 4 in SETUP with an edit image and a configuration sequence in the store. -/
def editing (m : ConfigImage) (sequence : Option Nat) : State :=
  let s := withStore (fun t => { t with configSequence := sequence }) (station .setup)
  { s with ctrl := { s.ctrl with edit := m } }

/-- The common hypotheses of StartBecomesPending. -/
def startCase (s : State) : Prop :=
  s.receives .start 12 4 [] ∧ s.ctrl.state = .setup ∧ s.ctrl.pendingStart = none ∧ s.readout.deferred.length = 4

theorem witness_StartBecomesPending_allowed :
    (startCase (editing image none) ∧ startAllowed (editing image none).ctrl.edit = true) ∧
    startCase (editing image (some 4294967294)) ∧ startAllowed (editing image (some 4294967294)).ctrl.edit = true :=
  ⟨⟨⟨receives_of _ _ _ _ _ (by decide +kernel), rfl, rfl, by decide +kernel⟩, by decide +kernel⟩,
    ⟨receives_of _ _ _ _ _ (by decide +kernel), rfl, rfl, by decide +kernel⟩, by decide +kernel⟩

theorem witness_StartBecomesPending_refused :
    startCase (editing {} none) ∧ startAllowed (editing {} none).ctrl.edit = false ∧
      (editing {} none).link.queue.length < 8 :=
  ⟨⟨receives_of _ _ _ _ _ (by decide +kernel), rfl, rfl, by decide +kernel⟩, by decide +kernel, by decide +kernel⟩

/-- Station 4 in SETUP, a START pending and its config write being programmed. -/
def starting : State :=
  let s := withStore (fun t => { t with programmer := some (.programConfig 0), configWrite := some { image := image, sequence := 1 } })
    (station .setup)
  { s with ctrl := { s.ctrl with pendingStart := some { terminal := 12, taken := 0 } } }

theorem witness_StartIsCarriedOutAtItsWrite :
    starting.store.programmer = some (.programConfig 0) ∧
      starting.store.configWrite = some { image := image, sequence := 1 } ∧
      starting.ctrl.pendingStart = some { terminal := 12, taken := 0 } ∧ starting.ownRoom ∧
      starting.readout.deferred.length = 4 ∧ starting.link.queue.length < 8 ∧ starting.link.deadlineTimer < 0 + 2000000 ∧
      0 + 2000000 < (withLink (fun l => { l with deadlineTimer := 2000001 }) starting).link.deadlineTimer :=
  ⟨rfl, rfl, rfl, ⟨rfl, by decide +kernel⟩, by decide +kernel, by decide +kernel, by decide +kernel, by decide +kernel⟩

theorem witness_RestartReturnsToSetup :
    (recording 600 0).receives .restart 12 4 [] ∧ (recording 600 0).ctrl.state = .recording ∧
      (recording 600 0).config? = some image ∧ (recording 600 0).link.queue.length < 8 ∧
      (recording 600 0).period.openInterval = some (emptyInterval (timeAt 600 0).interval) ∧
      (recording 600 0).period.recording = .opened ∧ (recording 600 0).store.failed = false ∧
      (recording 600 0).store.ownQueue.length ≤ 3 ∧ (emptyInterval (timeAt 600 0).interval).id.index ≠ 47 :=
  ⟨receives_of _ _ _ _ _ (by decide +kernel), rfl, rfl, by decide +kernel, rfl, rfl, rfl, by decide +kernel,
    by decide +kernel⟩

/-- UNTIMED, with no interval open. -/
theorem witness_RestartReturnsToSetup_untimed :
    (station .untimed).receives .restart 12 4 [] ∧ (station .untimed).ctrl.state = .untimed ∧
      (station .untimed).config? = some image ∧ (station .untimed).link.queue.length < 8 ∧
      (station .untimed).period.recording ≠ .opened ∧ (station .untimed).ownRoom :=
  ⟨receives_of _ _ _ _ _ (by decide +kernel), rfl, rfl, by decide +kernel, by decide +kernel, rfl, by decide +kernel⟩

theorem witness_StationAndConfigurationAreFixed :
    (∃ t, exec (.restart 12 4 []) (recording 600 0) = .next t) ∧
      (∀ straps fire feed clean trip, Instr.restart 12 4 [] ≠ .powerOnReset straps fire feed clean trip) ∧
      (∀ pass, Instr.restart 12 4 [] ≠ .slotProgramComplete pass) ∧
      (∀ erases headers, Instr.restart 12 4 [] ≠ .scanComplete erases headers) :=
  ⟨⟨_, rfl⟩, nofun, nofun, nofun⟩

theorem witness_TablesKeepTheirSizes : (recording 600 0).tablesSized ∧ ∃ t, step (recording 600 0) = .next t :=
  ⟨by unfold State.tablesSized; decide +kernel, _, rfl⟩

end Sys2Proof.Tests
end

/-! The plant link: what the station sends and what it hears of others' traffic (R84 to R86, R91). -/

namespace Sys2Proof.Proofs

open Sys2Proof.Machine Sys2Proof.Laws

/-! An attempt and its entry in the transmit queue. -/

section Attempt

variable {q l r : List TxEntry} {e : TxEntry}

/-- The ends of an attempt look for its entry with `find?`: the only one in transmission is the one found. -/
theorem find_sending_of_only (he : e.sending = true) (hl : ∀ x ∈ l, x.sending = false) :
    (l ++ e :: r).find? (fun x => x.sending) = some e := by
  have hnone : l.find? (fun x => x.sending) = none := by simpa using hl
  rw [List.find?_append, hnone, List.find?_cons_of_pos he, Option.none_or]

/-- What ends an attempt passes over the entries that wait. -/
theorem filterMap_sending_of_waiting (kept : Option TxEntry) (hq : ∀ x ∈ q, x.sending = false) :
    q.filterMap (fun x => if x.sending then kept else some x) = q := by
  calc q.filterMap (fun x => if x.sending then kept else some x)
      = q.filterMap some := List.filterMap_congr fun x hx => by simp [hq x hx]
    _ = q := List.filterMap_some

variable {k : Link}

theorem link_sendingEntry_of_only (hq : k.queue = l ++ e :: r) (he : e.sending = true)
    (hl : ∀ x ∈ l, x.sending = false) : k.sendingEntry = some e := by
  rw [Link.sendingEntry, hq, find_sending_of_only he hl]

/-- The end of an attempt removes its entry, or puts `kept` in its place, and keeps every entry before and after it. -/
theorem endAttempt_of_only (kept : Option TxEntry) (hq : k.queue = l ++ e :: r) (he : e.sending = true)
    (hl : ∀ x ∈ l, x.sending = false) (hr : ∀ x ∈ r, x.sending = false) :
    endAttempt kept k = { k with attempt := none, queue := l ++ (kept.toList ++ r) } := by
  have hmid : (e :: r).filterMap (fun x => if x.sending then kept else some x) = kept.toList ++ r := by
    cases kept with
    | none => simpa [he] using filterMap_sending_of_waiting none hr
    | some e' => simpa [he] using filterMap_sending_of_waiting (some e') hr
  rw [endAttempt, hq, List.filterMap_append, filterMap_sending_of_waiting kept hl, hmid]

end Attempt

/-- A completion in an attempt with an entry in transmission ends the attempt without keeping the entry (R91). -/
theorem completeAttempt_of_sending {s : State} {bits : Nat} {e : TxEntry} (ha : s.link.attempt = some bits)
    (he : s.link.sendingEntry = some e) :
    completeAttempt s =
      setReceiver .afterFrame (s.setLink { endAttempt none s.link with linkFault := false }) := by
  simp [completeAttempt, ha, he]

/-- Settles O29: the attempt's entry is the one in transmission, and ending the attempt without it leaves what stands
before and after it. -/
theorem completionRemovesTheEntry : Obligations.CompletionRemovesTheEntry := by
  intro s bits l r e ha hq he hl hr
  have hexec : exec .transmitComplete s = .next (completeAttempt s) := rfl
  rw [hexec, completeAttempt_of_sending ha (link_sendingEntry_of_only hq he hl), endAttempt_of_only none hq he hl hr]
  rfl

/-! Frames that no block is handed. -/

/-- R86, class by class: every broadcast, no reply, and of the requests those to this station and the two kinds that
target 0 carries to all. -/
theorem acceptedHere_iff (station : Nat) (k : FrameKind) (target : Nat) : acceptedHere station k target = true ↔
    k.frameClass = .broadcast ∨
      (k.frameClass = .request ∧ (target = station ∨ (target = 0 ∧ (k = .statusReq ∨ k = .time)))) := by
  unfold acceptedHere
  cases hk : k.frameClass with
  | broadcast => simp
  | reply => simp
  | request => simp

section Foreign

variable {kind sender target : Byte} {k : FrameKind} {payload : List Byte} {s : State}

/-- A frame of another node that passes the checks and is not accepted leaves the checks as it came to them: none of the
counts of R84 and R85 rises, and no owner is handed the frame. -/
theorem checkFrame_of_not_accepted (hk : frameKindOf kind.toNat = some k)
    (hpass : frameAllowed k sender.toNat target.toNat payload = true) (hother : sender.toNat ≠ s.station)
    (hacc : acceptedHere s.station k target.toNat = false) (owner : State → State) :
    checkFrame kind sender target payload owner s = s := by
  simp [checkFrame, hk, hpass, hother, hacc]

theorem foreignTraffic_of_not_accepted {station : Nat} (hk : frameKindOf kind.toNat = some k)
    (hpass : frameAllowed k sender.toNat target.toNat payload = true) (hother : sender.toNat ≠ station)
    (hacc : acceptedHere station k target.toNat = false) : foreignTraffic station kind sender target payload = true := by
  simp [foreignTraffic, hk, hpass, hother, hacc]

/-- A receiver that would assemble the frame stands after it, whatever owner the frame would have had. -/
theorem receiveFrame_of_not_accepted (hear : s.hearing) (hk : frameKindOf kind.toNat = some k)
    (hpass : frameAllowed k sender.toNat target.toNat payload = true) (hother : sender.toNat ≠ s.station)
    (hacc : acceptedHere s.station k target.toNat = false) (owner : State → State) :
    receiveFrame kind sender target payload owner s = s.frameOver := by
  rw [receiveFrame, wholeFrame_hearing hear]
  exact checkFrame_of_not_accepted (s := s.frameOver) hk hpass hother hacc owner

theorem exec_trafficForAnotherNode_of_foreign (h : foreignTraffic s.station kind sender target payload = true) :
    exec (.trafficForAnotherNode kind sender target payload) s =
      .next (receiveFrame kind sender target payload id s) := by
  have hexec : exec (.trafficForAnotherNode kind sender target payload) s =
      execTrafficForAnotherNode kind sender target payload s := rfl
  rw [hexec, execTrafficForAnotherNode, if_pos h]

end Foreign

/-- Settles O25: the acceptance class by class, and the discard from the receiver through the checks. -/
theorem trafficForOthersIsDiscarded : Obligations.TrafficForOthersIsDiscarded := by
  refine ⟨acceptedHere_iff, ?_⟩
  intro kind sender target k payload s hear hk hpass hother hacc
  rw [exec_trafficForAnotherNode_of_foreign (foreignTraffic_of_not_accepted hk hpass hother hacc),
    receiveFrame_of_not_accepted hear hk hpass hother hacc]

end Sys2Proof.Proofs

/-! Boundary marks (R104, R105): a MARK taken in RECORDING, and the interval close it may bring. -/

namespace Sys2Proof.Proofs

open Sys2Proof.Machine Sys2Proof.Laws

/-! The own record queue at a minute close: what is queued stays queued, in its order, whatever is offered after it. -/

section OwnQueue

variable {s : State}

/-- R132: a queue that takes the record has it at its back. -/
theorem offerOwn_ownQueue_of_room (r : SlotImage) (h : s.ownRoom) :
    (offerOwn r s).store.ownQueue = s.store.ownQueue ++ [r] := by
  obtain ⟨hstore, hlen⟩ := h
  simp [offerOwn, hstore, hlen]

theorem offerOwn_keeps_ownQueue (r : SlotImage) (s : State) :
    s.store.ownQueue <+: (offerOwn r s).store.ownQueue := by
  unfold offerOwn
  split
  · simp
  · split <;> simp

theorem offerNotice_keeps_ownQueue (code : NoticeCode) (params : List Byte) (s : State) :
    s.store.ownQueue <+: (offerNotice code params s).store.ownQueue :=
  offerOwn_keeps_ownQueue _ s

theorem enterCutoff_keeps_ownQueue (cause : CutoffCause) (s : State) :
    s.store.ownQueue <+: (enterCutoff cause s).store.ownQueue := by
  simpa [enterCutoff] using offerNotice_keeps_ownQueue .cutoff _ (setMachine (.cutoff cause) s)

theorem checkLimits_keeps_ownQueue (s : State) : s.store.ownQueue <+: (checkLimits s).store.ownQueue := by
  unfold checkLimits
  split
  · exact (offerNotice_keeps_ownQueue _ _ s).trans (enterCutoff_keeps_ownQueue _ _)
  · exact List.prefix_rfl

theorem countMinute_keeps_ownQueue (s : State) : s.store.ownQueue <+: (countMinute s).store.ownQueue := by
  unfold countMinute
  extract_lets p q
  split
  · have hset (x : Plant) : s.store.ownQueue <+: (s.setPlant x).store.ownQueue := List.prefix_rfl
    exact (hset _).trans (checkLimits_keeps_ownQueue _)
  · exact List.prefix_rfl

theorem plantMinuteClose_keeps_ownQueue (year : Nat) (s : State) :
    s.store.ownQueue <+: (plantMinuteClose year s).store.ownQueue := by
  simpa [plantMinuteClose] using countMinute_keeps_ownQueue s

theorem offerAdjust_keeps_ownQueue (staged : Option StagedAdjustment) (s : State) :
    s.store.ownQueue <+: (offerAdjust staged s).store.ownQueue := by
  cases staged with
  | none => exact List.prefix_rfl
  | some a => exact offerNotice_keeps_ownQueue _ _ s

theorem storeDayClose_ownQueue (year : Nat) (s : State) :
    (storeDayClose year s).store.ownQueue = s.store.ownQueue := by
  unfold storeDayClose recheckStalled advanceIndexYear
  dsimp only
  split <;> rfl

theorem dayClose_keeps_ownQueue (s : State) : s.store.ownQueue <+: (dayClose s).store.ownQueue := by
  unfold dayClose
  split
  · exact List.prefix_rfl
  · exact offerOwn_keeps_ownQueue _ s

theorem yearClose_keeps_ownQueue (s : State) : s.store.ownQueue <+: (yearClose s).store.ownQueue := by
  unfold yearClose
  split
  · simpa [offerYear] using (offerOwn_keeps_ownQueue _ s).trans (offerOwn_keeps_ownQueue _ _)
  · exact List.prefix_rfl

/-- What is made only under a condition keeps the queue if it keeps it when made. -/
theorem ite_keeps_ownQueue {c : Prop} [Decidable c] {f : State → State}
    (hf : ∀ s, s.store.ownQueue <+: (f s).store.ownQueue) (s : State) :
    s.store.ownQueue <+: (if c then f s else s).store.ownQueue := by
  split
  · exact hf s
  · exact List.prefix_rfl

/-- R52: the record of the interval closed is queued, and the day and year closes after it leave it there. -/
theorem record_mem_closeOpenInterval (o : OpenInterval) (fate : Fate) (h : s.ownRoom) :
    ∃ r, makeSlot .interval (intervalData r) ∈ (closeOpenInterval o fate s).store.ownQueue ∧
      r.id = o.id ∧ r.origin = s.ctrl.station ∧ r.flags = o.flags := by
  unfold closeOpenInterval
  extract_lets r _ closed offered _ summed
  have hroom : closed.ownRoom := h
  have hoffered : makeSlot .interval (intervalData r) ∈ summed.store.ownQueue := by
    simp [summed, offered, offerOwn_ownQueue_of_room _ hroom]
  have hday := ite_keeps_ownQueue (c := o.id.index = 47) dayClose_keeps_ownQueue summed
  exact ⟨r, (ite_keeps_ownQueue yearClose_keeps_ownQueue _).subset (hday.subset hoffered), rfl, rfl, rfl⟩

/-- R47, R52, R105: an open interval with room for its record is closed with a record under its id, of this station, that says
whether the close was early. -/
theorem record_mem_periodIntervalClose (early : Bool) (next : Id) {o : OpenInterval}
    (hopen : s.period.recording = .opened) (ho : s.period.openInterval = some o) (h : s.ownRoom) :
    ∃ r, makeSlot .interval (intervalData r) ∈ (periodIntervalClose early next s).store.ownQueue ∧
      r.id = o.id ∧ r.origin = s.ctrl.station ∧ r.flags.earlyClose = early := by
  obtain ⟨r, hr, hid, horigin, hflags⟩ := record_mem_closeOpenInterval
    { o with flags := { o.flags with earlyClose := early } } (decideFate false o.operating o.abnormal) h
  refine ⟨r, ?_, hid, horigin, by rw [hflags]⟩
  simpa [periodIntervalClose, hopen, ho] using hr

end OwnQueue

/-! The transmit queue at a minute close: the measuring blocks offer no MARK. -/

/-- What stands in the queue without its youngest waiting RESULT stood in it before. -/
theorem dropYoungestResult_subset {q q' : List TxEntry} (h : dropYoungestResult q = some q') : q' ⊆ q := by
  induction q generalizing q' with
  | nil => cases h
  | cons e rest ih =>
    unfold dropYoungestResult at h
    split at h
    · cases h
      exact List.cons_subset_cons e (ih ‹_›)
    · split at h
      · cases h
        exact List.subset_cons_self e rest
      · cases h

/-- R93 to R95: an entry that joins the queue brings no other with it. -/
theorem mem_joinQueue {e x : TxEntry} {s : State} (hx : x ∈ (joinQueue e s).link.queue) : x ∈ s.link.queue ∨ x = e := by
  unfold joinQueue at hx
  extract_lets kept at hx
  split at hx
  · simp only [setLink_link, List.mem_append, List.mem_singleton] at hx
    exact hx.imp_left List.mem_of_mem_filter
  · split at hx
    · simpa using hx
    · split at hx
      · rename_i q hq
        simp only [setLink_link, List.mem_append, List.mem_singleton] at hx
        exact hx.imp_left fun hxq => dropYoungestResult_subset hq hxq
      · exact .inl hx

/-- R117: the load share unit offers no frame but the LOAD of the own report. -/
theorem mark_mem_shareMinuteClose {r : LoadReport} {s : State} {e : TxEntry}
    (he : e ∈ (shareMinuteClose r s).link.queue) (hk : e.kind = .mark) : e ∈ s.link.queue := by
  unfold shareMinuteClose at he
  extract_lets written at he
  split at he
  · exact he
  · split at he
    · rcases mem_joinQueue he with hold | hload
      · exact hold
      · simp [hload] at hk
    · exact he

theorem mark_mem_closeMeasurement {m : MinuteId} {s : State} {e : TxEntry}
    (he : e ∈ (closeMeasurement m s).link.queue) (hk : e.kind = .mark) : e ∈ s.link.queue := by
  unfold closeMeasurement at he
  split at he
  · simpa using he
  · simp only [beginFireSeen_frame] at he
    have hbefore := mark_mem_shareMinuteClose he hk
    split at hbefore <;> simpa using hbefore

/-! The open interval at a minute close: it takes the minute and stays the interval it is (R44). -/

theorem takeMinute_openInterval (r : MinuteResult) {s : State} {o : OpenInterval} (ho : s.period.openInterval = some o) :
    ∃ o', (takeMinute r s).period.openInterval = some o' ∧ o'.id = o.id := by
  unfold takeMinute
  split
  · rename_i o₁ _ ho₁
    cases ho.symm.trans ho₁
    exact ⟨_, rfl, rfl⟩
  · exact ⟨o, ho, rfl⟩

theorem closeMeasurement_openInterval (m : MinuteId) {s : State} {o : OpenInterval} (ho : s.period.openInterval = some o) :
    ∃ o', (closeMeasurement m s).period.openInterval = some o' ∧ o'.id = o.id := by
  unfold closeMeasurement
  split
  · exact ⟨o, by simpa using ho, rfl⟩
  · simp only [beginFireSeen_frame, shareMinuteClose_frame, setIntake_period]
    apply takeMinute_openInterval
    split <;> exact ho

/-! The early close of the last minute of an interval (R105). -/

section EarlyClose

variable {s : State} {now : StationTime}

/-- The station when the interval close of the running minute comes: the clock has moved on and the measuring blocks have
closed the minute (R100). -/
def minuteMeasured (now : StationTime) (s : State) : State :=
  closeMeasurement now.minuteId (copyClosedFlags (s.setClock (s.clock.close now)))

/-- R100: an early close of an interval's last minute, written with `minuteMeasured`. -/
theorem closeMinute_early (htime : s.clock.time = some now) (hlast : now.minute % 30 = 29) :
    closeMinute true s =
      if now.minute = 1439 then
        storeDayClose now.nextMinute.year (offerAdjust s.clock.staged (plantMinuteClose now.nextMinute.year
          (periodIntervalClose true now.nextMinute.interval (minuteMeasured now s))))
      else
        offerAdjust s.clock.staged (plantMinuteClose now.nextMinute.year
          (periodIntervalClose true now.nextMinute.interval (minuteMeasured now s))) := by
  simp [closeMinute, htime, hlast, closeInterval, minuteMeasured]

theorem closeMinute_early_clock (htime : s.clock.time = some now) (hlast : now.minute % 30 = 29) :
    (closeMinute true s).clock = s.clock.close now := by
  rw [closeMinute_early htime hlast]
  split <;> simp [minuteMeasured]

/-- R105: an early close offers no MARK. -/
theorem mark_mem_closeMinute_early (htime : s.clock.time = some now) (hlast : now.minute % 30 = 29) {e : TxEntry}
    (he : e ∈ (closeMinute true s).link.queue) (hk : e.kind = .mark) : e ∈ s.link.queue := by
  have hlink : (closeMinute true s).link = (minuteMeasured now s).link := by
    rw [closeMinute_early htime hlast]
    split <;> simp
  rw [hlink] at he
  simpa using mark_mem_closeMeasurement he hk

/-- R105: an early close of an open interval queues the interval's record, marked EARLY_CLOSE. -/
theorem record_mem_closeMinute_early (htime : s.clock.time = some now) (hlast : now.minute % 30 = 29) {o : OpenInterval}
    (hopen : s.period.recording = .opened) (ho : s.period.openInterval = some o) (hroom : s.ownRoom) :
    ∃ r, makeSlot .interval (intervalData r) ∈ (closeMinute true s).store.ownQueue ∧ r.id = o.id ∧
      r.origin = s.ctrl.station ∧ r.flags.earlyClose = true := by
  obtain ⟨o', ho', hid'⟩ := closeMeasurement_openInterval now.minuteId
    (s := copyClosedFlags (s.setClock (s.clock.close now))) (by simpa using ho)
  obtain ⟨r, hr, hid, horigin, hearly⟩ := record_mem_periodIntervalClose (s := minuteMeasured now s) true
    now.nextMinute.interval (by simpa [minuteMeasured] using hopen) ho' (by simpa [State.ownRoom, minuteMeasured] using hroom)
  refine ⟨r, ?_, hid.trans hid', by simpa [minuteMeasured] using horigin, hearly⟩
  have hafter := (offerAdjust_keeps_ownQueue s.clock.staged _).subset
    ((plantMinuteClose_keeps_ownQueue now.nextMinute.year _).subset hr)
  rw [closeMinute_early htime hlast]
  split
  · rwa [storeDayClose_ownQueue]
  · exact hafter

end EarlyClose

/-! The decision on a MARK in RECORDING (R104), case by case. -/

section Mark

variable {sender target : Byte} {payload : List Byte} {now : StationTime} {s : State} {i : Id}

/-- R103: a MARK heard in RECORDING reaches the decision with the receiver after the frame. -/
theorem exec_mark_recording (h : s.receives .mark sender target payload) (hrec : s.ctrl.state = .recording) :
    exec (.mark sender target payload) s = .next (decideMark (markId payload) s.frameOver) := by
  have hexec : exec (.mark sender target payload) s = execMark sender target payload s := rfl
  rw [hexec, execMark, receiveKind_receives h (by simp [hrec])]
  simp [takeMark, hrec]

theorem decideMark_running (htime : s.clock.time = some now) (husable : usableMark i = true) (hi : i = now.interval) :
    decideMark i s = if nearEnd s.clock now then closeMinute true s else countDisagreement s := by
  simp [decideMark, htime, husable, ← hi]

theorem decideMark_other (htime : s.clock.time = some now) (husable : usableMark i = true) (hi : i ≠ now.interval) :
    decideMark i s = if justClosed s.clock i then s else countDisagreement s := by
  simp [decideMark, htime, husable, hi]

theorem nearEnd_iff {c : Clock} (htime : c.time = some now) : nearEnd c now = true ↔
    now.minute % 30 = 29 ∧ c.minuteLength * 1000000 - now.micros ≤ 20000000 := by
  simp [nearEnd, Clock.remaining, htime]

theorem justClosed_iff (c : Clock) (i : Id) : justClosed c i = true ↔
    ∃ l, c.lastClosed = some l ∧ l.id = i ∧ l.elapsed ≤ 20000000 := by
  simp [justClosed, Option.any_eq_true]

/-- R107: the disagreements counted, with a receiver that stands after the frame. -/
theorem countDisagreement_frameOver (s : State) : countDisagreement s.frameOver =
    { s.frameOver with clock := { s.clock with disagreements := min (s.clock.disagreements + 1) 65535 } } := rfl

end Mark

/-- Settles O35: whether the id is that of the running interval, and then whether 20 s remain of it or have passed since the
last close, chooses among the four cases. -/
theorem markIsDecidedInRecording : Obligations.MarkIsDecidedInRecording := by
  intro sender target payload now s hears hrec htime husable
  rw [exec_mark_recording hears hrec]
  have htime' : s.frameOver.clock.time = some now := htime
  refine ⟨fun hi hlast hnear => ?_, fun hi hearly => ?_, fun hi hlate => ?_, fun hi hlate => ?_⟩
  case refine_1 =>
    rw [decideMark_running htime' husable hi, if_pos ((nearEnd_iff htime').mpr ⟨hlast, hnear⟩)]
    have hclock := closeMinute_early_clock htime' hlast
    refine ⟨_, rfl, ?_, ?_, ?_, fun e he hk => mark_mem_closeMinute_early htime' hlast he hk, ?_⟩
    · rw [hclock]; rfl
    · simp [hclock, Clock.close, hlast, hi]
    · rw [hclock]; rfl
    · intro _ o _ hopen ho hroom
      exact record_mem_closeMinute_early htime' hlast hopen ho hroom
  case refine_2 =>
    have hfar : ¬ nearEnd s.frameOver.clock now = true := by
      rw [nearEnd_iff htime']
      simp only [frameOver_frame]
      omega
    rw [decideMark_running htime' husable hi, if_neg hfar, countDisagreement_frameOver]
  case refine_3 =>
    have hclosed : justClosed s.frameOver.clock (markId payload) = true := (justClosed_iff _ _).mpr hlate
    rw [decideMark_other htime' husable hi, if_pos hclosed]
  case refine_4 =>
    have hnot : ¬ justClosed s.frameOver.clock (markId payload) = true := by
      rw [justClosed_iff]
      rintro ⟨l, hl, hid, helapsed⟩
      exact absurd (hlate l hl hid) (by omega)
    rw [decideMark_other htime' husable hi, if_neg hnot, countDisagreement_frameOver]

end Sys2Proof.Proofs

/-! Partner mirroring (R159): a RESULT from outside the partner set in force. -/

namespace Sys2Proof.Proofs

open Sys2Proof.Machine Sys2Proof.Laws

/-- R159: the partner set is that of the configuration in force, and empty without one. -/
theorem mem_config_partners {s : State} {n : Nat} :
    n ∈ s.config.partners ↔ ∃ m, s.config? = some m ∧ n ∈ m.partners := by
  unfold State.config
  cases s.config? with
  | none => simp
  | some m => simp

/-- R159: whatever the record and the station state, a sender outside the partner set is ignored. -/
theorem takeResult_of_not_partner {sender : Nat} {s : State} (hout : sender ∉ s.config.partners) (r : SlotImage) :
    takeResult sender r s = s := by
  simp [takeResult, hout]

section Broadcast

variable {k : FrameKind} {sender target : Byte} {payload : List Byte} {s : State}

/-- R87: a broadcast received in FAILED is handed to no owner, and is counted nowhere. -/
theorem receiveKind_broadcast_failed (h : s.receives k sender target payload) (hk : k.frameClass = .broadcast)
    (hfailed : s.ctrl.state = .failed) (owner : State → State) :
    receiveKind k sender target payload owner s = s.frameOver := by
  rw [receiveKind, receiveFrame, wholeFrame_hearing h.hears, checkFrame, frameKindOf_code]
  simp [h.allowed, h.foreign, h.accepted, hk, hfailed]

/-- A broadcast whose owner ignores it leaves the receiver after the frame and nothing more, in FAILED as elsewhere. -/
theorem receiveKind_broadcast_ignored (h : s.receives k sender target payload) (hk : k.frameClass = .broadcast)
    {owner : State → State} (hignored : owner s.frameOver = s.frameOver) :
    receiveKind k sender target payload owner s = s.frameOver := by
  by_cases hfailed : s.ctrl.state = .failed
  · exact receiveKind_broadcast_failed h hk hfailed owner
  · rw [receiveKind_receives h (fun hf => absurd hf hfailed), hignored]

end Broadcast

/-- Settles O41: in FAILED no block is handed the RESULT, and elsewhere partner mirroring finds its sender outside the
partner set, which is also empty where no configuration is in force. -/
theorem resultOfANonPartnerIsIgnored : Obligations.ResultOfANonPartnerIsIgnored := by
  intro sender target payload s hears hout
  have hexec : exec (.result sender target payload) s = execResult sender target payload s := rfl
  have hnone : sender.toNat ∉ s.frameOver.config.partners := fun hmem => by
    obtain ⟨m, hm, hpartner⟩ := mem_config_partners.mp hmem
    exact hout m hm hpartner
  rw [hexec, execResult, receiveKind_broadcast_ignored hears rfl (takeResult_of_not_partner hnone _)]

end Sys2Proof.Proofs

/-! The commands as functions on the state: what every command leaves, and the shape of an invariant's proof. -/

namespace Sys2Proof.Proofs

open Sys2Proof.Machine Sys2Proof.Laws

/-- The state a command leaves. -/
def after (c : Instr) (s : State) : State :=
  match c with
  | .powerOnReset straps fire feed clean trip => resetState straps fire feed clean trip s
  | .analyserFrame bytes => bytes.foldl receiveAnalyserByte s
  | .analyserFrameAbandon => if s.intake.partialFrame.isEmpty then s else countFrameError (setPartial [] s)
  | .inputEdge line active => if s.plant.level line = active then s else takeEdge line active s
  | .minuteClose => minuteEnds s
  | .untimedMinuteClose => untimedEnds s
  | .mark sender target payload => receiveKind .mark sender target payload (takeMark (markId payload)) s
  | .load sender target payload =>
    receiveKind .load sender target payload (takeLoad sender.toNat (loadFields payload)) s
  | .result sender target payload =>
    receiveKind .result sender target payload (takeResult sender.toNat (resultSlot payload)) s
  | .addressClash kind target payload => receiveFrame kind (BitVec.ofNat 8 s.station) target payload id s
  | .frameBroken _ => breakFrame s
  | .frameCheckFail characters => if charactersPass characters then s else wholeFrame countReceiveError s
  | .statusReq sender target payload =>
    receiveRequest .statusReq sender target payload (takeStatus sender.toNat payload) s
  | .window sender target payload => receiveRequest .window sender target payload
    (fun s => answerWith .window sender.toNat s.now (takeWindow sender.toNat payload s)) s
  | .read sender target payload => receiveRequest .read sender target payload (takeRead sender.toNat payload) s
  | .time sender target payload => receiveRequest .time sender target payload
    (fun s => answerWith .time sender.toNat s.now (takeTime sender.toNat (timeFields payload) s)) s
  | .release sender target payload => receiveRequest .release sender target payload
    (fun s => answerWith .release sender.toNat s.now (takeRelease sender.toNat s)) s
  | .configure sender target payload => receiveRequest .configure sender target payload
    (fun s => answerWith .configure sender.toNat s.now (takeConfigureBytes payload s)) s
  | .start sender target payload => receiveRequest .start sender target payload (takeStartRequest sender.toNat) s
  | .restart sender target payload => receiveRequest .restart sender target payload
    (fun s => answerWith .restart sender.toNat s.now (takeRestart sender.toNat s)) s
  | .transmitAttemptStart => beginAttempt s
  | .arbitrationLost => loseArbitration s
  | .transmitError => failAttempt s
  | .transmitComplete => completeAttempt s
  | .entryExpired => expireEntry s
  | .loadEntryAgeOut station => ageOut (station.val + 1) s
  | .programmerStart => startWork s
  | .slotProgramComplete pass => programComplete pass s
  | .blockEraseComplete pass => eraseComplete pass s
  | .slotCopyComplete pass => slotCopyComplete pass s
  | .storeReadServed => serveWaiting s
  | .scanComplete failedErases failedHeaders => scanEnds failedErases failedHeaders s
  | .lineIdle => lineFallsIdle s
  | .trafficForAnotherNode kind sender target payload =>
    if foreignTraffic s.station kind sender target payload then receiveFrame kind sender target payload id s else s

/-- Every command answers a next state. -/
theorem exec_eq_after (c : Instr) (s : State) : exec c s = .next (after c s) := by
  cases c <;> rfl

theorem after_of_exec {c : Instr} {s t : State} (h : exec c s = .next t) : after c s = t := by
  rw [exec_eq_after] at h
  cases h
  rfl

/-- Settles O1: a nonempty queue is a front command and a rest. -/
theorem stepRunsTheFrontCommand : Obligations.StepRunsTheFrontCommand := by
  intro c rest s h
  simp [step, h, State.setPending]

/-- An invariant is kept by every step when it does not speak of the queue of commands, and a tick and every command
keep it. -/
theorem step_keeps {P : State → Prop} (hpending : ∀ s q, P s → P (s.setPending q))
    (htick : ∀ s, P s → P (elapse Config.tickMicros s)) (hcommand : ∀ c s, P s → P (after c s)) :
    ∀ s t, P s → step s = .next t → P t := by
  intro s t hs hstep
  unfold step at hstep
  split at hstep
  · cases hstep
    exact hpending _ _ (htick s hs)
  · rename_i c rest _
    rw [exec_eq_after] at hstep
    cases hstep
    exact hcommand c _ (hpending s rest hs)

/-! A frame on the line, for proofs over all commands: what the owner of the frame keeps, the frame keeps. -/

section Frames

variable {k : FrameKind} {kind sender target : Byte} {payload : List Byte} {owner serve : State → State} {s : State}

/-- A property of the state that a change of reception keeps, and the owner of an accepted frame keeps, a frame keeps. -/
theorem receiveFrame_keeps {P : State → Prop} (hlink : ∀ s l, receptionOnly s.link l → P s → P (s.setLink l))
    (howner : ∀ k, s.receives k sender target payload → P s.frameOver → P (owner s.frameOver)) (h : P s) :
    P (receiveFrame kind sender target payload owner s) := by
  rcases receiveFrame_cases kind sender target payload owner s with ⟨l, heq, hl⟩ | ⟨heq, -, k, -, hr, -⟩
  · exact heq ▸ hlink s l hl h
  · exact heq ▸ howner k hr (hlink s _ ⟨rfl, rfl, rfl, rfl, rfl, rfl, rfl⟩ h)

theorem receiveKind_keeps {P : State → Prop} (hlink : ∀ s l, receptionOnly s.link l → P s → P (s.setLink l))
    (howner : s.receives k sender target payload → P s.frameOver → P (owner s.frameOver)) (h : P s) :
    P (receiveKind k sender target payload owner s) := by
  rcases receiveKind_cases k sender target payload owner s with ⟨l, heq, hl⟩ | ⟨heq, hr, -⟩
  · exact heq ▸ hlink s l hl h
  · exact heq ▸ howner hr (hlink s _ ⟨rfl, rfl, rfl, rfl, rfl, rfl, rfl⟩ h)

theorem receiveRequest_keeps {P : State → Prop} (hlink : ∀ s l, receptionOnly s.link l → P s → P (s.setLink l))
    (hanswer : ∀ code, s.receives k sender target payload → P s.frameOver →
      P (offerAnswer k sender.toNat s.link.deadlineTimer code s.frameOver))
    (hserve : s.receives k sender target payload → P s.frameOver → P (serve s.frameOver)) (h : P s) :
    P (receiveRequest k sender target payload serve s) := by
  have hover : P s.frameOver := hlink s _ ⟨rfl, rfl, rfl, rfl, rfl, rfl, rfl⟩ h
  rcases receiveRequest_cases k sender target payload serve s with
    ⟨l, heq, hl⟩ | ⟨hr, ⟨code, -, heq⟩ | ⟨-, heq⟩⟩
  · exact heq ▸ hlink s l hl h
  · exact heq ▸ hanswer code hr hover
  · exact heq ▸ hserve hr hover

/-- What is read off the state outside the link controller and the owner leaves alone, a frame leaves alone. -/
theorem receiveKind_view {β : Type} (f : State → β) (hlink : ∀ s l, f (s.setLink l) = f s)
    (howner : ∀ s, f (owner s) = f s) : f (receiveKind k sender target payload owner s) = f s :=
  receiveKind_keeps (P := fun t => f t = f s) (fun t l _ h => (hlink t l).trans h)
    (fun _ h => (howner _).trans h) rfl

theorem receiveRequest_view {β : Type} (f : State → β) (hlink : ∀ s l, f (s.setLink l) = f s)
    (hanswer : ∀ code s, f (offerAnswer k sender.toNat s.link.deadlineTimer code s) = f s)
    (hserve : ∀ s, f (serve s) = f s) : f (receiveRequest k sender target payload serve s) = f s :=
  receiveRequest_keeps (P := fun t => f t = f s) (fun t l _ h => (hlink t l).trans h)
    (fun code _ h => (hanswer code s.frameOver).trans h) (fun _ h => (hserve _).trans h) rfl

@[simp] theorem receiveFrame_id_frame (s : State) :
    (receiveFrame kind sender target payload id s).intake = s.intake ∧
    (receiveFrame kind sender target payload id s).norm = s.norm ∧
    (receiveFrame kind sender target payload id s).period = s.period ∧
    (receiveFrame kind sender target payload id s).plant = s.plant ∧
    (receiveFrame kind sender target payload id s).clock = s.clock ∧
    (receiveFrame kind sender target payload id s).share = s.share ∧
    (receiveFrame kind sender target payload id s).store = s.store ∧
    (receiveFrame kind sender target payload id s).mirror = s.mirror ∧
    (receiveFrame kind sender target payload id s).readout = s.readout ∧
    (receiveFrame kind sender target payload id s).ctrl = s.ctrl := by
  rcases receiveFrame_cases kind sender target payload id s with ⟨l, heq, -⟩ | ⟨heq, -⟩ <;> rw [heq] <;> simp

@[simp] theorem wholeFrame_countReceiveError_frame (s : State) :
    (wholeFrame countReceiveError s).intake = s.intake ∧ (wholeFrame countReceiveError s).norm = s.norm ∧
    (wholeFrame countReceiveError s).period = s.period ∧ (wholeFrame countReceiveError s).plant = s.plant ∧
    (wholeFrame countReceiveError s).clock = s.clock ∧ (wholeFrame countReceiveError s).share = s.share ∧
    (wholeFrame countReceiveError s).store = s.store ∧ (wholeFrame countReceiveError s).mirror = s.mirror ∧
    (wholeFrame countReceiveError s).readout = s.readout ∧ (wholeFrame countReceiveError s).ctrl = s.ctrl := by
  rcases wholeFrame_cases countReceiveError s with ⟨l, heq, -⟩ | ⟨heq, -⟩ <;> rw [heq] <;> simp

@[simp] theorem receiveKind_intake (h : ∀ s, (owner s).intake = s.intake) :
    (receiveKind k sender target payload owner s).intake = s.intake :=
  receiveKind_view (fun s => s.intake) (fun _ _ => rfl) h

@[simp] theorem receiveKind_period (h : ∀ s, (owner s).period = s.period) :
    (receiveKind k sender target payload owner s).period = s.period :=
  receiveKind_view (fun s => s.period) (fun _ _ => rfl) h

@[simp] theorem receiveKind_plant (h : ∀ s, (owner s).plant = s.plant) :
    (receiveKind k sender target payload owner s).plant = s.plant :=
  receiveKind_view (fun s => s.plant) (fun _ _ => rfl) h

@[simp] theorem receiveKind_clock (h : ∀ s, (owner s).clock = s.clock) :
    (receiveKind k sender target payload owner s).clock = s.clock :=
  receiveKind_view (fun s => s.clock) (fun _ _ => rfl) h

@[simp] theorem receiveKind_share (h : ∀ s, (owner s).share = s.share) :
    (receiveKind k sender target payload owner s).share = s.share :=
  receiveKind_view (fun s => s.share) (fun _ _ => rfl) h

@[simp] theorem receiveKind_store (h : ∀ s, (owner s).store = s.store) :
    (receiveKind k sender target payload owner s).store = s.store :=
  receiveKind_view (fun s => s.store) (fun _ _ => rfl) h

@[simp] theorem receiveKind_mirror (h : ∀ s, (owner s).mirror = s.mirror) :
    (receiveKind k sender target payload owner s).mirror = s.mirror :=
  receiveKind_view (fun s => s.mirror) (fun _ _ => rfl) h

@[simp] theorem receiveKind_readout (h : ∀ s, (owner s).readout = s.readout) :
    (receiveKind k sender target payload owner s).readout = s.readout :=
  receiveKind_view (fun s => s.readout) (fun _ _ => rfl) h

@[simp] theorem receiveKind_ctrl (h : ∀ s, (owner s).ctrl = s.ctrl) :
    (receiveKind k sender target payload owner s).ctrl = s.ctrl :=
  receiveKind_view (fun s => s.ctrl) (fun _ _ => rfl) h

@[simp] theorem receiveRequest_intake (h : ∀ s, (serve s).intake = s.intake) :
    (receiveRequest k sender target payload serve s).intake = s.intake :=
  receiveRequest_view (fun s => s.intake) (fun _ _ => rfl) (by simp) h

@[simp] theorem receiveRequest_period (h : ∀ s, (serve s).period = s.period) :
    (receiveRequest k sender target payload serve s).period = s.period :=
  receiveRequest_view (fun s => s.period) (fun _ _ => rfl) (by simp) h

@[simp] theorem receiveRequest_plant (h : ∀ s, (serve s).plant = s.plant) :
    (receiveRequest k sender target payload serve s).plant = s.plant :=
  receiveRequest_view (fun s => s.plant) (fun _ _ => rfl) (by simp) h

@[simp] theorem receiveRequest_clock (h : ∀ s, (serve s).clock = s.clock) :
    (receiveRequest k sender target payload serve s).clock = s.clock :=
  receiveRequest_view (fun s => s.clock) (fun _ _ => rfl) (by simp) h

@[simp] theorem receiveRequest_share (h : ∀ s, (serve s).share = s.share) :
    (receiveRequest k sender target payload serve s).share = s.share :=
  receiveRequest_view (fun s => s.share) (fun _ _ => rfl) (by simp) h

@[simp] theorem receiveRequest_store (h : ∀ s, (serve s).store = s.store) :
    (receiveRequest k sender target payload serve s).store = s.store :=
  receiveRequest_view (fun s => s.store) (fun _ _ => rfl) (by simp) h

@[simp] theorem receiveRequest_mirror (h : ∀ s, (serve s).mirror = s.mirror) :
    (receiveRequest k sender target payload serve s).mirror = s.mirror :=
  receiveRequest_view (fun s => s.mirror) (fun _ _ => rfl) (by simp) h

@[simp] theorem receiveRequest_readout (h : ∀ s, (serve s).readout = s.readout) :
    (receiveRequest k sender target payload serve s).readout = s.readout :=
  receiveRequest_view (fun s => s.readout) (fun _ _ => rfl) (by simp) h

@[simp] theorem receiveRequest_ctrl (h : ∀ s, (serve s).ctrl = s.ctrl) :
    (receiveRequest k sender target payload serve s).ctrl = s.ctrl :=
  receiveRequest_view (fun s => s.ctrl) (fun _ _ => rfl) (by simp) h

@[simp] theorem answerWith_frame (terminal taken : Nat) (r : State × AnswerCode) :
    (answerWith k terminal taken r).intake = r.1.intake ∧ (answerWith k terminal taken r).norm = r.1.norm ∧
    (answerWith k terminal taken r).period = r.1.period ∧ (answerWith k terminal taken r).plant = r.1.plant ∧
    (answerWith k terminal taken r).clock = r.1.clock ∧ (answerWith k terminal taken r).share = r.1.share ∧
    (answerWith k terminal taken r).store = r.1.store ∧ (answerWith k terminal taken r).mirror = r.1.mirror ∧
    (answerWith k terminal taken r).readout = r.1.readout ∧ (answerWith k terminal taken r).ctrl = r.1.ctrl := by
  simp [answerWith]

end Frames

/-! Bytes on the analyser line and completions of the programmer, for proofs over all commands. -/

@[simp] theorem foldl_receiveAnalyserByte_frame (bytes : List Byte) (s : State) :
    (bytes.foldl receiveAnalyserByte s).norm = s.norm ∧ (bytes.foldl receiveAnalyserByte s).period = s.period ∧
    (bytes.foldl receiveAnalyserByte s).plant = s.plant ∧ (bytes.foldl receiveAnalyserByte s).clock = s.clock ∧
    (bytes.foldl receiveAnalyserByte s).share = s.share ∧ (bytes.foldl receiveAnalyserByte s).link = s.link ∧
    (bytes.foldl receiveAnalyserByte s).store = s.store ∧ (bytes.foldl receiveAnalyserByte s).mirror = s.mirror ∧
    (bytes.foldl receiveAnalyserByte s).readout = s.readout ∧ (bytes.foldl receiveAnalyserByte s).ctrl = s.ctrl := by
  rw [foldl_receiveAnalyserByte]
  simp

@[simp] theorem programComplete_frame (pass : Bool) (s : State) :
    (programComplete pass s).intake = s.intake ∧ (programComplete pass s).clock = s.clock := by
  unfold programComplete
  dsimp only
  split <;> simp

end Sys2Proof.Proofs

/-! The intake unit: what a reading and a minute close make of the channel entries (R5 to R18), and the limits of the minute
accumulators (R11, R12). -/

namespace Sys2Proof.Proofs

open Sys2Proof.Machine Sys2Proof.Laws

theorem forall_mem_updateAt {α : Type} {p : α → Prop} {f : α → α} {l : List α} (n : Nat) (hf : ∀ x, p x → p (f x))
    (h : ∀ x ∈ l, p x) : ∀ x ∈ updateAt l n f, p x := by
  intro x hx
  obtain ⟨m, hm⟩ := List.mem_iff_getElem?.mp hx
  rw [updateAt, List.getElem?_modify] at hm
  obtain ⟨y, hy, rfl⟩ := Option.map_eq_some_iff.mp hm
  have hp : p y := h y (List.mem_of_getElem? hy)
  split
  · exact hf y hp
  · exact hp

/-! What the operations on a channel entry leave of its accumulator. -/

/-- R12: a saturated value lies within ±2,147,483,647. -/
theorem saturate32_bounds (x : Int) : -limit32 ≤ (saturate32 x).1 ∧ (saturate32 x).1 ≤ limit32 := by
  unfold saturate32
  split
  · decide
  · split
    · decide
    · omega

theorem bounded_empty : ({} : MinuteAcc).bounded := by
  unfold MinuteAcc.bounded
  decide

/-- Bounds speak of the count and the sum alone. -/
theorem bounded_congr {a b : MinuteAcc} (hcount : b.count = a.count) (hsum : b.sum = a.sum) (h : a.bounded) :
    b.bounded := by
  unfold MinuteAcc.bounded
  rwa [hcount, hsum]

theorem bounded_add {a : MinuteAcc} (v : Int) (hcount : a.count < 1023) : (a.add v).bounded := by
  have hsum := saturate32_bounds (a.sum + v)
  exact ⟨hcount, hsum.1, hsum.2⟩

theorem bounded_accumulate {a : MinuteAcc} (r : Reading) (h : a.bounded) : (a.accumulate r).bounded := by
  unfold MinuteAcc.accumulate
  cases r.status with
  | calibrating => exact bounded_congr rfl rfl h
  | maintenance => exact bounded_congr rfl rfl h
  | fault => exact bounded_congr rfl rfl h
  | measuring =>
    dsimp only
    split
    · exact bounded_congr rfl rfl h
    · exact bounded_add _ (by omega)
  | overrange =>
    dsimp only
    split
    · exact bounded_congr rfl rfl h
    · exact bounded_add (a := { a with clamped := true }) _ (by simpa using ‹¬1023 ≤ a.count›)

theorem examine_acc (e : ChannelEntry) (settleMinutes : Nat) (status : AnalyserStatus) :
    (e.examine settleMinutes status).acc = { e.acc with returnMark := e.returned || e.acc.returnMark } := by
  unfold ChannelEntry.examine
  cases e.returned with
  | true => simp
  | false => cases h : (!status.isMeasuring && e.settling) <;> simp

/-! The limits hold of every channel through whatever the intake unit is given. -/

section Bounded

variable {s t : State}

theorem accumulatorsBounded_congr (hchannels : t.intake.channels = s.intake.channels) (h : s.accumulatorsBounded) :
    t.accumulatorsBounded := by
  unfold State.accumulatorsBounded
  rwa [hchannels]

/-- Empty accumulators lie within the limits. -/
theorem accumulatorsBounded_of_count_sum (h : ∀ e ∈ s.intake.channels, e.acc.count = 0 ∧ e.acc.sum = 0) :
    s.accumulatorsBounded := fun e he =>
  bounded_congr (a := {}) (h e he).1 (h e he).2 bounded_empty

theorem accumulatorsBounded_takeReading (ch : Nat) (status : AnalyserStatus) (value : Int)
    (h : s.accumulatorsBounded) : (takeReading ch status value s).accumulatorsBounded := by
  refine forall_mem_updateAt ch (fun e he => ?_) h
  have hexamined : ∀ r m, ((e.capture r).examine m status).acc.bounded := fun r m => by
    rw [examine_acc]
    exact bounded_congr rfl rfl he
  dsimp only
  split
  · exact bounded_accumulate _ (hexamined _ _)
  · exact hexamined _ _

theorem accumulatorsBounded_checkReadingFrame (frame : List Byte) (h : s.accumulatorsBounded) :
    (checkReadingFrame frame s).accumulatorsBounded := by
  unfold checkReadingFrame
  split
  · split
    · split
      · exact accumulatorsBounded_takeReading _ _ _ (accumulatorsBounded_congr rfl h)
      · exact accumulatorsBounded_congr rfl h
    · exact accumulatorsBounded_congr rfl h
  · exact accumulatorsBounded_congr rfl h

theorem accumulatorsBounded_receiveAnalyserByte (b : Byte) (h : s.accumulatorsBounded) :
    (receiveAnalyserByte s b).accumulatorsBounded := by
  unfold receiveAnalyserByte
  split
  · split
    · exact accumulatorsBounded_congr rfl h
    · exact h
  · dsimp only
    split
    · exact accumulatorsBounded_congr rfl h
    · exact accumulatorsBounded_checkReadingFrame _ h

theorem accumulatorsBounded_foldl_bytes (bytes : List Byte) (h : s.accumulatorsBounded) :
    (bytes.foldl receiveAnalyserByte s).accumulatorsBounded := by
  induction bytes generalizing s with
  | nil => exact h
  | cons b rest ih => exact ih (accumulatorsBounded_receiveAnalyserByte b h)

/-! A minute close and a setting of the clock empty the accumulators (R17, R18). -/

theorem closeMeasurement_channels (m : MinuteId) (s : State) :
    (closeMeasurement m s).intake.channels = s.intake.channels.map ChannelEntry.closed := by
  unfold closeMeasurement
  split
  · simp [intakeClose]
  · dsimp only
    split <;> simp [intakeClose]

theorem closeMinute_channels {now : StationTime} (early : Bool) (htime : s.clock.time = some now) :
    (closeMinute early s).intake.channels = s.intake.channels.map ChannelEntry.closed := by
  unfold closeMinute
  rw [htime]
  dsimp only
  split <;> split <;> simp [closeMeasurement_channels]

theorem setTime_channels (now : StationTime) (last : Option LastClosed) (s : State) :
    (setTime now last s).intake.channels =
      s.intake.channels.map (fun e => { e with acc := { returnMark := e.acc.returnMark } }) := by
  simp [setTime, intakeRestart]

theorem accumulatorsBounded_closeMinute (early : Bool) (h : s.accumulatorsBounded) :
    (closeMinute early s).accumulatorsBounded := by
  cases htime : s.clock.time with
  | none => simpa [closeMinute, htime] using h
  | some now =>
    apply accumulatorsBounded_of_count_sum
    rw [closeMinute_channels early htime]
    simp [ChannelEntry.closed]

theorem accumulatorsBounded_minuteEnds (h : s.accumulatorsBounded) : (minuteEnds s).accumulatorsBounded := by
  unfold minuteEnds
  split
  · exact h
  · split
    · exact h
    · exact accumulatorsBounded_closeMinute false (accumulatorsBounded_congr (by simp) h)

theorem accumulatorsBounded_setTime (now : StationTime) (last : Option LastClosed) (s : State) :
    (setTime now last s).accumulatorsBounded := by
  apply accumulatorsBounded_of_count_sum
  rw [setTime_channels]
  simp

theorem accumulatorsBounded_acquireTime (now : StationTime) (last : Option LastClosed) (s : State) :
    (acquireTime now last s).accumulatorsBounded :=
  accumulatorsBounded_congr (by simp [acquireTime]) (accumulatorsBounded_setTime now last s)

theorem accumulatorsBounded_takeMark (i : Id) (h : s.accumulatorsBounded) : (takeMark i s).accumulatorsBounded := by
  unfold takeMark
  split
  · exact h
  · exact h
  · exact h
  · split
    · exact accumulatorsBounded_acquireTime _ _ s
    · exact h
  · have hcount : (countDisagreement s).accumulatorsBounded := accumulatorsBounded_congr rfl h
    unfold decideMark
    split
    · exact hcount
    · split
      · exact hcount
      · split
        · split
          · exact accumulatorsBounded_closeMinute true h
          · exact hcount
        · split
          · exact h
          · exact hcount

theorem accumulatorsBounded_takeTime (terminal : Nat) (f : TimeFields) (h : s.accumulatorsBounded) :
    (takeTime terminal f s).1.accumulatorsBounded := by
  unfold takeTime
  split
  · exact h
  · split
    · exact accumulatorsBounded_acquireTime _ _ s
    · exact accumulatorsBounded_congr (by simp) h
    · exact accumulatorsBounded_setTime _ _ s
    · exact h
    · exact h

/-- The commands that touch the intake unit are the reset, the analyser line and what closes or sets the minute. -/
theorem accumulatorsBounded_after (c : Instr) (s : State) (h : s.accumulatorsBounded) :
    (after c s).accumulatorsBounded := by
  have hlink : ∀ (s : State) l, receptionOnly s.link l → s.accumulatorsBounded → (s.setLink l).accumulatorsBounded :=
    fun _ _ _ h => h
  cases c with
  | powerOnReset straps fire feed clean trip =>
    exact accumulatorsBounded_of_count_sum (by simp [after, resetState, emptyChannels])
  | analyserFrame bytes => exact accumulatorsBounded_foldl_bytes bytes h
  | analyserFrameAbandon =>
    rw [after]
    split
    · exact h
    · exact accumulatorsBounded_congr rfl h
  | minuteClose => exact accumulatorsBounded_minuteEnds h
  | mark sender target payload =>
    exact receiveKind_keeps hlink (fun _ h => accumulatorsBounded_takeMark _ h) h
  | time sender target payload =>
    refine receiveRequest_keeps hlink (fun _ _ h => accumulatorsBounded_congr (by simp) h) (fun _ h => ?_) h
    exact accumulatorsBounded_congr (by simp) (accumulatorsBounded_takeTime sender.toNat (timeFields payload) h)
  | _ =>
    exact accumulatorsBounded_congr (by simp [after, apply_ite State.intake]) h

end Bounded

/-- Settles O8: each command either leaves the accumulators, empties them, or takes readings into one of them. -/
theorem accumulatorsStayWithinLimits : Obligations.AccumulatorsStayWithinLimits :=
  step_keeps (fun _ _ h => h) (fun _ h => accumulatorsBounded_congr (by simp) h) accumulatorsBounded_after

end Sys2Proof.Proofs

/-! The flash die (R127): which commands touch it, its canonical form, and what a reset leaves of an operation in progress. -/

namespace Sys2Proof.Proofs

open Sys2Proof.Machine Sys2Proof.Laws

section DieKept

variable {k : FrameKind} {sender target : Byte} {payload : List Byte} {owner serve : State → State} {s : State}

theorem receiveKind_dieKept (h : ∀ s, (owner s).store.die = s.store.die) :
    (receiveKind k sender target payload owner s).store.die = s.store.die :=
  receiveKind_view (fun s => s.store.die) (fun _ _ => rfl) h

theorem receiveRequest_dieKept (h : ∀ s, (serve s).store.die = s.store.die) :
    (receiveRequest k sender target payload serve s).store.die = s.store.die :=
  receiveRequest_view (fun s => s.store.die) (fun _ _ => rfl) (by simp) h

/-- The commands at which the die may change: the reset, the end of the scan, and the answers of the die (R127). -/
def touchesDie : Instr → Bool
  | .powerOnReset _ _ _ _ _ | .slotProgramComplete _ | .blockEraseComplete _ | .slotCopyComplete _
  | .scanComplete _ _ => true
  | _ => false

theorem after_dieKept (c : Instr) (s : State) (h : touchesDie c = false) : (after c s).store.die = s.store.die := by
  cases c with
  | powerOnReset _ _ _ _ _ => cases h
  | slotProgramComplete _ => cases h
  | blockEraseComplete _ => cases h
  | slotCopyComplete _ => cases h
  | scanComplete _ _ => cases h
  | _ =>
    simp [after, receiveKind_dieKept, receiveRequest_dieKept, apply_ite State.store, apply_ite Store.die]

end DieKept

/-- Settles O46: every command that does not touch the die leaves it as it was. -/
theorem dieChangesOnlyAtCompletions : Obligations.DieChangesOnlyAtCompletions := by
  intro c s t hexec hreset hcomplete hscan
  rw [← after_of_exec hexec]
  apply after_dieKept
  cases c with
  | powerOnReset a b c d e => exact absurd rfl (hreset a b c d e)
  | slotProgramComplete pass => exact absurd rfl (hcomplete pass).1
  | blockEraseComplete pass => exact absurd rfl (hcomplete pass).2.1
  | slotCopyComplete pass => exact absurd rfl (hcomplete pass).2.2
  | scanComplete erases headers => exact absurd rfl (hscan erases headers)
  | _ => rfl

/-! The canonical form of the die. -/

section DieWf

variable {s t : State}

theorem dieWf_congr (hdie : t.store.die = s.store.die) (h : s.dieWf = true) : t.dieWf = true := by
  rwa [State.dieWf, hdie]

theorem dieWf_eraseSlots (b : Nat) (h : s.dieWf = true) : (eraseSlots b s).dieWf = true :=
  dieSorted_dieErase h b

theorem dieWf_scrambleSlots (b : Nat) (h : s.dieWf = true) : (scrambleSlots b s).dieWf = true := by
  rw [State.dieWf, scrambleSlots_die]
  exact dieSorted_dieFailedErase _ b h

@[simp] theorem setQueue_die (a : Area) (q : List SlotImage) (t : Store) : (t.setQueue a q).die = t.die := by
  cases a <;> rfl

theorem dieWf_headComplete (a : Area) (b n : Nat) (pass : Bool) (h : s.dieWf = true) :
    (headComplete a b n pass s).dieWf = true := by
  unfold headComplete
  split
  · exact h
  · split
    · simp [State.dieWf, dieSorted_dieWrite h]
    · dsimp only
      split <;> simp [State.dieWf, dieSorted_dieWrite h]

theorem dieWf_openHeaderComplete (a : Area) (b q : Nat) (pass : Bool) (h : s.dieWf = true) :
    (openHeaderComplete a b q pass s).dieWf = true := by
  unfold openHeaderComplete
  split <;> simp [State.dieWf, dieSorted_dieWrite h]

theorem dieWf_targetHeaderComplete (b q : Nat) (pass : Bool) (h : s.dieWf = true) :
    (targetHeaderComplete b q pass s).dieWf = true := by
  unfold targetHeaderComplete
  split
  · exact h
  · split <;> simp [State.dieWf, dieSorted_dieWrite h]

theorem dieWf_copyComplete (src tgt n : Nat) (pass : Bool) (h : s.dieWf = true) :
    (copyComplete src tgt n pass s).dieWf = true := by
  unfold copyComplete
  split
  · exact h
  · split
    · dsimp only
      split
      · simp [State.dieWf, dieSorted_dieWrite h]
      · exact dieWf_congr (by simp) h
    · simp [State.dieWf, dieSorted_dieWrite h]

theorem dieWf_recordComplete (b n : Nat) (pass : Bool) (h : s.dieWf = true) :
    (recordComplete b n pass s).dieWf = true := by
  unfold recordComplete
  split
  · exact h
  · split
    · split
      · exact h
      · simp [State.dieWf, dieSorted_dieWrite h]
    · simp [State.dieWf, dieSorted_dieWrite h]

theorem dieWf_copyEndComplete (b n : Nat) (pass : Bool) (h : s.dieWf = true) :
    (copyEndComplete b n pass s).dieWf = true := by
  unfold copyEndComplete
  split
  · exact h
  · split <;> simp [State.dieWf, dieSorted_dieWrite h]

theorem dieWf_retiredHeaderComplete (b q : Nat) (pass : Bool) (h : s.dieWf = true) :
    (retiredHeaderComplete b q pass s).dieWf = true := by
  unfold retiredHeaderComplete
  split <;> simp [State.dieWf, dieSorted_dieWrite h]

theorem dieWf_configComplete (n : Nat) (pass : Bool) (h : s.dieWf = true) : (configComplete n pass s).dieWf = true := by
  unfold configComplete
  split
  · exact h
  · split
    · simp [State.dieWf, dieSorted_dieWrite h]
    · dsimp only
      split <;> simp [State.dieWf, dieSorted_dieWrite h]

theorem dieWf_programComplete (pass : Bool) (h : s.dieWf = true) : (programComplete pass s).dieWf = true := by
  have hidle : (setProgrammer none s).dieWf = true := dieWf_congr (by simp) h
  unfold programComplete
  dsimp only
  split
  · exact dieWf_headComplete _ _ _ pass hidle
  · exact dieWf_openHeaderComplete _ _ _ pass hidle
  · exact dieWf_targetHeaderComplete _ _ pass hidle
  · exact dieWf_recordComplete _ _ pass hidle
  · exact dieWf_copyEndComplete _ _ pass hidle
  · exact dieWf_retiredHeaderComplete _ _ pass hidle
  · exact dieWf_configComplete _ pass hidle
  · exact h
  · exact h
  · exact h

theorem dieWf_fullErased (b : Nat) (p : ErasePurpose) (h : s.dieWf = true) : (fullErased b p s).dieWf = true := by
  unfold fullErased
  dsimp only
  split <;> exact dieWf_congr (by simp) (dieWf_eraseSlots b h)

theorem dieWf_poolEraseComplete (b : Nat) (p : ErasePurpose) (pass : Bool) (h : s.dieWf = true) :
    (poolEraseComplete b p pass s).dieWf = true := by
  unfold poolEraseComplete
  apply dieWf_congr (recheckStalled_dieKept _)
  split
  · exact dieWf_congr (by simp) (dieWf_eraseSlots b h)
  · exact dieWf_congr (by simp) (dieWf_scrambleSlots b h)
  · exact dieWf_fullErased b p h
  · exact dieWf_congr (by simp) (dieWf_scrambleSlots b h)

theorem dieWf_eraseComplete (pass : Bool) (h : s.dieWf = true) : (eraseComplete pass s).dieWf = true := by
  have hidle : (setProgrammer none s).dieWf = true := dieWf_congr (by simp) h
  unfold eraseComplete
  split
  · unfold configEraseComplete
    split
    · exact dieWf_congr (by simp) (dieWf_eraseSlots 0 hidle)
    · exact dieWf_congr (by simp) hidle
  · exact dieWf_poolEraseComplete _ _ pass hidle
  · exact h

/-! The settling of the scan (R151, R152) erases blocks and writes headers. -/

theorem dieWf_scanErase (failed : Bool) (b : Nat) (h : s.dieWf = true) : (scanErase failed b s).dieWf = true := by
  unfold scanErase
  split
  · exact dieWf_congr (by simp) (dieWf_scrambleSlots b h)
  · exact dieWf_congr (by simp) (dieWf_eraseSlots b h)

theorem dieWf_scanRetire (failedErase failedHeader : Bool) (b : Nat) (h : s.dieWf = true) :
    (scanRetire failedErase failedHeader b s).dieWf = true := by
  have herased : dieSorted (dieErase s.store.die b) = true := dieWf_eraseSlots b h
  unfold scanRetire
  split
  · exact dieWf_congr (by simp) (dieWf_scrambleSlots b h)
  · dsimp only
    split <;> simp [State.dieWf, dieSorted_dieWrite herased]

theorem dieWf_foldl_settleBlock (all : List ScannedBlock) (erases headers : List Nat) (l : List ScannedBlock)
    (h : s.dieWf = true) : (l.foldl (settleBlock all erases headers) s).dieWf = true := by
  induction l generalizing s with
  | nil => exact h
  | cons b rest ih =>
    refine ih ?_
    unfold settleBlock
    split
    · exact dieWf_scanErase _ _ h
    · split
      · exact dieWf_scanRetire _ _ _ h
      · exact h

theorem dieWf_scanEnds (erases headers : List Nat) (h : s.dieWf = true) : (scanEnds erases headers s).dieWf = true := by
  unfold scanEnds
  split
  · refine dieWf_congr (s := settleStore erases headers s) (by simp) ?_
    rw [settleStore]
    refine dieWf_congr (by simp; rfl) (dieWf_foldl_settleBlock _ erases headers _ (s := s.setStore _) ?_)
    exact h
  · exact h

/-- The commands that touch the die do it by slot writes, erases and cut-offs. -/
theorem dieWf_after (c : Instr) (s : State) (h : s.dieWf = true) : (after c s).dieWf = true := by
  cases c with
  | powerOnReset straps fire feed clean trip => exact dieSorted_cutOff s.store.programmer h
  | slotProgramComplete pass => exact dieWf_programComplete pass h
  | blockEraseComplete pass => exact dieWf_eraseComplete pass h
  | slotCopyComplete pass =>
    rw [after, slotCopyComplete]
    split
    · exact dieWf_copyComplete _ _ _ pass (dieWf_congr (by simp) h)
    · exact h
  | scanComplete erases headers => exact dieWf_scanEnds erases headers h
  | _ => exact dieWf_congr (after_dieKept _ s rfl) h

end DieWf

/-- Settles O47: the die changes by slot writes, erases and cut-offs alone, and each keeps its addresses rising. -/
theorem dieKeepsItsCanonicalForm : Obligations.DieKeepsItsCanonicalForm :=
  step_keeps (fun _ _ h => h) (fun _ h => dieWf_congr (by simp) h) dieWf_after

/-! A reset cuts off the operation in progress (R127, R152). -/

theorem cutOff_slot {op : ProgOp} {b n : Nat} (die : List (Nat × SlotContent)) (h : op.slot? = some (b, n)) :
    cutOff (some op) die = dieWrite die (slotAddress b n) .void := by
  cases op <;> cases h <;> rfl

/-- Settles O3: the reset writes VOID into the slot in progress, makes a block being erased VOID, and does no more. -/
theorem resetCutsOffTheProgrammer : Obligations.ResetCutsOffTheProgrammer := by
  intro straps fire feed clean trip s
  have hdie : (resetState straps fire feed clean trip s).store.die = cutOff s.store.programmer s.store.die := rfl
  refine ⟨_, rfl, fun hidle => ?_, fun op b n hop hslot => ⟨?_, fun a ha => ?_⟩, fun b p hop a ha => ?_⟩
  · rw [hdie, hidle, cutOff]
  · rw [hdie, hop, cutOff_slot _ hslot, dieRead_dieWrite_self]
  · rw [hdie, hop, cutOff_slot _ hslot, dieRead_dieWrite_of_ne _ ha]
  · rw [hdie, hop, cutOff, dieRead_dieVoid_of_ne b 1024 a (Nat.le_refl _) ha]

end Sys2Proof.Proofs

/-! The plant signals, the record store and the year summary, for proofs over all commands. What the commands do to them
they do by the updates of `StoreInvariant`, so that an invariant of these blocks need only be checked for those. -/

namespace Sys2Proof.Proofs

open Sys2Proof.Machine Sys2Proof.Laws

/-- A store of another's shape: its block table as long or of full size, and neither queue longer. -/
def Fits (x y : Store) : Prop :=
  (x.blocks.length = y.blocks.length ∨ x.blocks.length = 256) ∧ x.ownQueue.length ≤ y.ownQueue.length ∧
    x.mirrorQueue.length ≤ y.mirrorQueue.length

/-- The plant signals, the station controller, the year summary and the partners' table are as they were, and the store has
the shape it had. -/
def Kept (s t : State) : Prop :=
  t.plant = s.plant ∧ t.ctrl = s.ctrl ∧ t.period.summary = s.period.summary ∧ t.mirror = s.mirror ∧ Fits t.store s.store

/-- A property of the plant signals, the record store, the year summary and the partners' table that is kept by the updates
of which the commands make their operations on these blocks. -/
structure StoreInvariant (P : State → Prop) : Prop where
  congr : ∀ {s t : State}, P s → Kept s t → P t
  setPlant : ∀ {s : State}, P s → ∀ x : Plant, x.permit = s.plant.permit → x.faultLine = s.plant.faultLine →
    x.machine = s.plant.machine → x.recordLoss = s.plant.recordLoss → P (s.setPlant x)
  setMachine : ∀ {s : State} (m : AbnormalMachine), P s → P (setMachine m s)
  setRecordLoss : ∀ {s : State} (b : Bool), P s → P (setRecordLoss b s)
  enterState : ∀ {s : State} (st : StationState), P s → P (enterState st s)
  setCtrl : ∀ {s : State}, P s → ∀ x : Controller, x.state = s.ctrl.state → P (s.setCtrl x)
  setSummary : ∀ {s : State}, P s → ∀ y : YearSummary,
    y.components.length = s.period.summary.components.length ∨ y.components.length = 8 → P (setSummary y s)
  setMirror : ∀ {s : State}, P s → ∀ x : Mirror, x.origins.length = s.mirror.origins.length → P (s.setMirror x)
  offerOwn : ∀ {s : State} (r : SlotImage), P s → P (offerOwn r s)
  offerMirrored : ∀ {s : State} (r : SlotImage), P s → s.store.mirrorQueue.length < 8 →
    P (s.setStore { s.store with mirrorQueue := s.store.mirrorQueue ++ [r] })

theorem Fits.of_eq {x y : Store} (hblocks : x.blocks = y.blocks) (hown : x.ownQueue = y.ownQueue)
    (hmirror : x.mirrorQueue = y.mirrorQueue) : Fits x y := by
  rw [Fits, hblocks, hown, hmirror]
  exact ⟨.inl rfl, le_refl _, le_refl _⟩

theorem zipTotals_length {β : Type} (f : YearTotals → β → YearTotals) (ts : List YearTotals) (es : List (Option β)) :
    (zipTotals f ts es).length = ts.length := by
  induction ts, es using zipTotals.induct <;> simp_all [zipTotals]

/-- R164: no more records stand in the mirror intake queue once those of former partners are dropped. -/
theorem dropFormerPartners_length (x : Store) (partners : List Nat) :
    (x.dropFormerPartners partners).mirrorQueue.length ≤ x.mirrorQueue.length := by
  have hkeep : ∀ q : List SlotImage, (q.filter fun r => partners.contains r.origin).length ≤ q.length :=
    fun q => List.length_filter_le ..
  unfold Store.dropFormerPartners
  dsimp only
  split
  · have := hkeep (x.mirrorQueue.drop 1)
    simp only [List.length_append, List.length_take, List.length_drop] at this ⊢
    omega
  · exact hkeep _

/-- R58, R59, R61: the summary rebuilt from records has its eight components. -/
theorem rebuildSummary_size (own : List SlotImage) : (rebuildSummary own).2.components.length = 8 := by
  unfold rebuildSummary
  split
  · rfl
  · rfl
  · refine List.foldlRecOn (motive := fun y : YearSummary => y.components.length = 8) _ _ rfl fun y h r _ => ?_
    unfold YearSummary.addRecord
    split
    · rw [YearSummary.addInterval, zipTotals_length, h]
    · rw [YearSummary.addDay, zipTotals_length, h]
    · simp [YearSummary.addNotice, apply_ite YearSummary.components, h]
    · exact h

/-- A START becomes pending, or is answered at once and changes nothing else (R187, R188). -/
theorem takeStartRequest_cases (terminal : Nat) (s : State) :
    takeStartRequest terminal s = beginStart terminal s.now s ∨
      ∃ code, takeStartRequest terminal s = offerAnswer .start terminal s.now code s := by
  unfold takeStartRequest takeStart
  cases s.ctrl.state with
  | setup =>
    dsimp only
    by_cases hpending : s.ctrl.pendingStart.isSome
    · exact .inr ⟨.condition, by simp [hpending]⟩
    · by_cases hallowed : startAllowed s.ctrl.edit
      · exact .inl (by simp [hpending, hallowed])
      · exact .inr ⟨.condition, by simp [hpending, hallowed]⟩
  | scan => exact .inr ⟨.state, rfl⟩
  | untimed => exact .inr ⟨.state, rfl⟩
  | recording => exact .inr ⟨.state, rfl⟩
  | failed => exact .inr ⟨.state, rfl⟩

namespace StoreInvariant

variable {P : State → Prop} {s : State} (K : StoreInvariant P)
include K

theorem setPeriod (h : P s) (x : Period)
    (hx : x.summary.components.length = s.period.summary.components.length ∨ x.summary.components.length = 8) :
    P (s.setPeriod x) :=
  K.congr (K.setSummary h x.summary hx) (by simp [Kept, Fits, Machine.setSummary])

theorem setStore (x : Store) (h : P s) (hx : Fits x s.store) : P (s.setStore x) := K.congr h ⟨rfl, rfl, rfl, rfl, hx⟩

/-! The abnormal machine. -/

theorem offerNotice (code : NoticeCode) (params : List Byte) (h : P s) : P (offerNotice code params s) :=
  K.offerOwn _ h

theorem reportToSummary (f : YearSummary → YearSummary) (hf : ∀ y, (f y).components = y.components) (h : P s) :
    P (reportToSummary f s) := by
  unfold Machine.reportToSummary
  split
  · split
    · exact K.setPeriod h _ (.inl (by rw [hf]))
    · exact h
  · exact h

theorem enterCutoff (cause : CutoffCause) (h : P s) : P (enterCutoff cause s) :=
  K.reportToSummary (fun y => { y with cutoffs := y.cutoffs + 1 }) (fun _ => rfl) (K.offerNotice _ _ (K.setMachine (.cutoff cause) h))

theorem cutoffFromAbnormal (cause : CutoffCause) (ending : Cause) (h : P s) : P (cutoffFromAbnormal cause ending s) :=
  K.enterCutoff _ (K.offerNotice _ _ h)

theorem checkLimits (h : P s) : P (checkLimits s) := by
  unfold Machine.checkLimits
  split
  · exact K.cutoffFromAbnormal _ _ h
  · exact h

theorem enterAbnormal (cause : Cause) (carried : Nat) (h : P s) : P (enterAbnormal cause carried s) :=
  K.checkLimits (K.reportToSummary (fun y => { y with episodes := y.episodes + 1 }) (fun _ => rfl)
    (K.offerNotice _ _ (K.setMachine _ (K.setPlant h _ rfl rfl rfl rfl))))

theorem endEpisode (cause : Cause) (h : P s) : P (endEpisode cause s) := K.offerNotice _ _ (K.setMachine _ h)

theorem edgeMachine (line : InputLine) (active : Bool) (h : P s) : P (edgeMachine line active s) := by
  unfold Machine.edgeMachine
  split
  · split
    · exact K.enterAbnormal _ _ h
    · exact h
  · split
    · exact K.enterAbnormal _ _ h
    · exact h
  · exact K.enterCutoff _ h
  · exact K.endEpisode _ h
  · exact K.endEpisode _ h
  · exact K.cutoffFromAbnormal _ _ h
  · exact h

omit K in
/-- An edge acts on the levels and the minute flags alone before the machine sees it (R65). -/
theorem edgeFlags_setLevel (line : InputLine) (active : Bool) (p : Plant) :
    (edgeFlags line active (setLevel line active p)).permit = p.permit ∧
    (edgeFlags line active (setLevel line active p)).faultLine = p.faultLine ∧
    (edgeFlags line active (setLevel line active p)).machine = p.machine ∧
    (edgeFlags line active (setLevel line active p)).recordLoss = p.recordLoss := by
  cases line <;> cases active <;> simp [edgeFlags, setLevel] <;> split <;> simp

theorem takeEdge (line : InputLine) (active : Bool) (h : P s) : P (takeEdge line active s) := by
  obtain ⟨hpermit, hfault, hmachine, hloss⟩ := edgeFlags_setLevel line active s.plant
  have hflags := K.setPlant h _ hpermit hfault hmachine hloss
  have hfire : ∀ {t : State}, P t →
      P (if line = .fire && active then t.setShare { t.share with fireSeen := true } else t) := fun h => by
    split
    · exact K.congr h (by simp [Kept, Fits])
    · exact h
  have hmachine : ∀ {t : State}, P t →
      P (if t.ctrl.state = .scan || t.ctrl.state = .failed then t else Machine.edgeMachine line active t) := fun h => by
    split
    · exact h
    · exact K.edgeMachine _ _ h
  exact hmachine (hfire hflags)

/-! The minutes. -/

theorem countMinute (h : P s) : P (countMinute s) := by
  have hcount : P (s.setPlant (if s.plant.abnormalFlag then
      { s.plant with yearCount := count16 s.plant.yearCount 1 } else s.plant)) := by
    split
    · exact K.setPlant h _ rfl rfl rfl rfl
    · exact h
  unfold Machine.countMinute
  dsimp only
  generalize (if s.plant.abnormalFlag then _ else _) = p at hcount ⊢
  split
  · exact K.checkLimits (K.setPlant hcount _ rfl rfl rfl rfl)
  · exact hcount

theorem beginMinuteFlags (h : P s) : P (beginMinuteFlags s) := K.setPlant h _ rfl rfl rfl rfl

theorem copyClosedFlags (h : P s) : P (copyClosedFlags s) := K.setPlant h _ rfl rfl rfl rfl

theorem settleCountYear (year : Nat) (h : P s) : P (settleCountYear year s) := by
  unfold Machine.settleCountYear
  split
  · exact K.setPlant h _ rfl rfl rfl rfl
  · split
    · exact h
    · exact K.setPlant h _ rfl rfl rfl rfl

theorem plantMinuteClose (year : Nat) (h : P s) : P (plantMinuteClose year s) :=
  K.beginMinuteFlags (K.settleCountYear year (K.countMinute h))

theorem untimedExpiry (h : P s) : P (untimedExpiry s) :=
  K.beginMinuteFlags (K.setPlant (K.countMinute h) _ rfl rfl rfl rfl)

theorem stopUntimedTimer (year : Nat) (h : P s) : P (stopUntimedTimer year s) := by
  unfold Machine.stopUntimedTimer
  dsimp only
  split
  · exact K.settleCountYear year (K.beginMinuteFlags (K.setPlant (K.countMinute h) _ rfl rfl rfl rfl))
  · exact K.settleCountYear year h

theorem takeRelease (terminal : Nat) (h : P s) : P (takeRelease terminal s).1 := by
  unfold Machine.takeRelease
  split
  · split
    · exact h
    · exact K.offerNotice _ _ (K.setMachine _ (K.setPlant h _ rfl rfl rfl rfl))
  · exact h
  · exact h

/-! The period unit. -/

theorem offerYear (year : Nat) (h : P s) : P (offerYear year s) := K.offerOwn _ (K.offerOwn _ h)

theorem restartSummary (year : Nat) (h : P s) : P (restartSummary year s) := K.setPeriod h _ (.inr rfl)

theorem yearClose (h : P s) : P (yearClose s) := by
  unfold Machine.yearClose
  split
  · exact K.restartSummary _ (K.offerYear _ h)
  · exact h

theorem dayClose (h : P s) : P (dayClose s) := by
  unfold Machine.dayClose
  split
  · exact h
  · exact K.setPeriod (K.offerOwn _ h) _ (.inl (by simp [YearSummary.addDay, zipTotals_length]))

theorem openInterval (i : Id) (isPartial : Bool) (h : P s) : P (openInterval i isPartial s) :=
  K.congr h (by simp [Kept, Fits])

theorem closeLateDay (x : Id) (h : P s) : P (closeLateDay x s).1 := by
  unfold Machine.closeLateDay
  split
  · split
    · dsimp only
      split
      · exact K.yearClose (K.dayClose h)
      · exact K.dayClose h
    · exact h
  · exact h

theorem lateYear (x : Id) (entered : Bool) (h : P s) : P (lateYear x entered s) := by
  unfold Machine.lateYear
  split
  · split
    · refine K.restartSummary _ ?_
      split
      · exact h
      · exact K.offerYear _ h
    · exact h
  · exact h

theorem countGap (l x : Id) (h : P s) : P (countGap l x s) := by
  unfold Machine.countGap
  split
  · exact K.setSummary h _ (.inl rfl)
  · exact h

theorem firstSummaryYear (x : Id) (h : P s) : P (firstSummaryYear x s) := by
  unfold Machine.firstSummaryYear
  split
  · exact K.setPeriod h _ (.inl rfl)
  · exact h

theorem openFirst (x : Id) (isPartial : Bool) (h : P s) : P (openFirst x isPartial s) := by
  have hgap := fun {t : State} (l : Id) (h : P t) => K.countGap l x h
  have hlate : ∀ {t : State}, P t → P (Machine.firstSummaryYear x
      (Machine.lateYear x (Machine.closeLateDay x t).2 (Machine.closeLateDay x t).1)) :=
    fun h => K.firstSummaryYear x (K.lateYear x _ (K.closeLateDay x h))
  unfold Machine.openFirst
  cases gapBefore s.period x with
  | none => exact K.openInterval x isPartial (hlate h)
  | some l =>
    refine K.openInterval x isPartial (K.offerNotice _ _ ?_)
    dsimp only
    split
    · exact hgap _ (hlate (hgap _ h))
    · exact hlate (hgap _ h)

theorem closeOpenInterval (o : OpenInterval) (fate : Fate) (h : P s) : P (closeOpenInterval o fate s) := by
  have hrecord : P (Machine.offerOwn (makeSlot .interval (intervalData
      (buildInterval s.station s.config o fate ComponentAcc.untaken)))
      (s.setPeriod { s.period with lastOwn := some o.id, openInterval := none })) :=
    K.offerOwn _ (K.setPeriod h _ (.inl rfl))
  have hday : ∀ {t : State}, P t → P (if o.id.index = 47 then Machine.dayClose t else t) := fun h => by
    split
    · exact K.dayClose h
    · exact h
  unfold Machine.closeOpenInterval
  dsimp only
  split
  · exact K.yearClose (hday (K.setPeriod hrecord _ (.inl (by simp [YearSummary.addInterval, zipTotals_length]))))
  · exact hday (K.setPeriod hrecord _ (.inl (by simp [YearSummary.addInterval, zipTotals_length])))

theorem periodIntervalClose (early : Bool) (next : Id) (h : P s) : P (periodIntervalClose early next s) := by
  unfold Machine.periodIntervalClose
  split
  · exact K.openInterval _ _ (K.closeOpenInterval _ _ h)
  · split
    · exact K.openFirst _ _ h
    · exact h
  · exact h

theorem interruptPeriod (h : P s) : P (interruptPeriod s) := by
  unfold Machine.interruptPeriod
  refine K.setPeriod ?_ _ (.inl rfl)
  split
  · exact K.closeOpenInterval _ _ h
  · exact h

theorem enterRecordingByTime (t : StationTime) (h : P s) : P (enterRecordingByTime t s) := by
  unfold Machine.enterRecordingByTime
  split
  · exact K.openFirst _ _ h
  · exact K.setPeriod h _ (.inl rfl)

/-! The clock: the passing of time, the minute close, and a setting. -/

theorem elapse (dt : Nat) (h : P s) : P (elapse dt s) :=
  K.congr (K.setPlant h (Machine.elapse dt s).plant rfl rfl rfl rfl) (by simp [Kept, Fits])

theorem closeMeasurement (m : MinuteId) (h : P s) : P (closeMeasurement m s) :=
  K.congr h (by simp [Kept, Fits])

theorem closeInterval (early : Bool) (closing next : Id) (h : P s) : P (closeInterval early closing next s) := by
  unfold Machine.closeInterval
  dsimp only
  split
  · exact K.congr (K.periodIntervalClose early next h) (by simp [Kept, Fits])
  · exact K.periodIntervalClose early next h

theorem offerAdjust (staged : Option StagedAdjustment) (h : P s) : P (offerAdjust staged s) := by
  unfold Machine.offerAdjust
  split
  · exact K.offerNotice _ _ h
  · exact h

theorem recheckStalled (h : P s) : P (recheckStalled s) :=
  K.congr h (by simp [Machine.recheckStalled, Kept, Fits])

theorem storeDayClose (year : Nat) (h : P s) : P (storeDayClose year s) := by
  refine K.recheckStalled ?_
  unfold advanceIndexYear
  split
  · exact K.setStore _ h (.of_eq rfl rfl rfl)
  · exact h

theorem closeMinute (early : Bool) (h : P s) : P (closeMinute early s) := by
  unfold Machine.closeMinute
  split
  · exact h
  · rename_i now _
    have hmeasured := K.closeMeasurement now.minuteId (K.copyClosedFlags (K.congr h
      (t := s.setClock (s.clock.close now)) ⟨rfl, rfl, rfl, rfl, (.of_eq rfl rfl rfl)⟩))
    have hinterval : ∀ {t : State}, P t → P (if now.minute % 30 = 29 then
        Machine.closeInterval early now.interval now.nextMinute.interval t else t) := fun h => by
      split
      · exact K.closeInterval _ _ _ h
      · exact h
    dsimp only
    split
    · exact K.storeDayClose _ (K.offerAdjust _ (K.plantMinuteClose _ (hinterval hmeasured)))
    · exact K.offerAdjust _ (K.plantMinuteClose _ (hinterval hmeasured))

theorem minuteEnds (h : P s) : P (minuteEnds s) := by
  unfold Machine.minuteEnds
  split
  · exact h
  · split
    · exact h
    · exact K.closeMinute _ (K.elapse _ h)

theorem untimedEnds (h : P s) : P (untimedEnds s) := by
  unfold Machine.untimedEnds
  split
  · exact K.untimedExpiry (K.elapse _ h)
  · exact h

theorem setClock (c : Clock) (h : P s) : P (s.setClock c) := K.congr h (by simp [Kept, Fits])

theorem setIntake (i : Intake) (h : P s) : P (s.setIntake i) := K.congr h (by simp [Kept, Fits])

theorem beginFireSeen (h : P s) : P (beginFireSeen s) := K.congr h (by simp [Kept, Fits])

theorem setTime (t : StationTime) (last : Option LastClosed) (h : P s) : P (setTime t last s) :=
  K.storeDayClose _ (K.beginFireSeen (K.stopUntimedTimer t.year (K.setIntake _ (K.setClock _ h))))

theorem acquireTime (t : StationTime) (last : Option LastClosed) (h : P s) : P (acquireTime t last s) :=
  K.enterRecordingByTime _ (K.enterState _ (K.setTime t last h))

theorem takeMark (i : Id) (h : P s) : P (takeMark i s) := by
  have hcount : P (countDisagreement s) := K.congr h (by simp [Kept, Fits])
  unfold Machine.takeMark
  split
  · exact h
  · exact h
  · exact h
  · split
    · exact K.acquireTime _ _ h
    · exact h
  · unfold decideMark
    split
    · exact hcount
    · split
      · exact hcount
      · split
        · split
          · exact K.closeMinute true h
          · exact hcount
        · split
          · exact h
          · exact hcount

theorem takeTime (terminal : Nat) (f : TimeFields) (h : P s) : P (takeTime terminal f s).1 := by
  unfold Machine.takeTime
  split
  · exact h
  · split
    · exact K.acquireTime _ _ h
    · exact K.congr h (by simp [Kept, Fits])
    · exact K.setTime _ _ h
    · exact h
    · exact h

theorem setReadout (r : Readout) (h : P s) : P (s.setReadout r) := K.congr h (by simp [Kept, Fits])

theorem takeRestart (terminal : Nat) (h : P s) : P (takeRestart terminal s).1 := by
  have hout : P (carryOutRestart terminal s) :=
    K.setCtrl (K.setReadout _ (K.offerNotice _ _ (K.interruptPeriod (K.enterState .setup h)))) _ rfl
  unfold Machine.takeRestart
  split
  · exact hout
  · exact hout
  · exact h
  · exact h
  · exact h

/-! The commands of the pins, the timers, the clock and the plant. -/

theorem setLink (l : Link) (h : P s) : P (s.setLink l) := K.congr h (by simp [Kept, Fits])

/-! The record store and the partners' table. -/

theorem setProgrammer (op : Option ProgOp) (h : P s) : P (setProgrammer op s) := K.setStore _ h (.of_eq rfl rfl rfl)

theorem setRelocation (x : Option Relocation) (h : P s) : P (setRelocation x s) := K.setStore _ h (.of_eq rfl rfl rfl)

theorem setBlock (b : Nat) (f : BlockEntry → BlockEntry) (h : P s) : P (setBlock b f s) :=
  K.setStore _ h ⟨.inl (List.length_modify ..), le_refl _, le_refl _⟩

theorem writeSlot (b n : Nat) (c : SlotContent) (h : P s) : P (writeSlot b n c s) := K.setStore _ h (.of_eq rfl rfl rfl)

theorem eraseSlots (b : Nat) (h : P s) : P (eraseSlots b s) := K.setStore _ h (.of_eq rfl rfl rfl)

theorem scrambleSlots (b : Nat) (h : P s) : P (scrambleSlots b s) :=
  K.congr h (by simp [Machine.scrambleSlots, Kept, Fits])

theorem takeSequence (h : P s) : P (takeSequence s) := K.setStore _ h (.of_eq rfl rfl rfl)

theorem updateOrigin (n : Nat) (f : OriginEntry → OriginEntry) (h : P s) :
    P (s.setMirror { s.mirror with origins := updateAt s.mirror.origins n f }) :=
  K.setMirror h _ (List.length_modify ..)

theorem dropMirror (x : SlotImage) (h : P s) : P (dropMirror s x) := K.updateOrigin _ _ h

theorem stallArea (a : Area) (h : P s) : P (stallArea a s) := by
  cases a with
  | own => exact K.setStore _ h (.of_eq rfl rfl rfl)
  | mirror =>
    exact K.setStore _ (List.foldlRecOn _ _ h fun _ h x _ => K.dropMirror x h) ⟨.inl rfl, le_refl _, Nat.zero_le _⟩

theorem beginErase (b : Nat) (purpose : ErasePurpose) (h : P s) : P (beginErase b purpose s) := by
  have hmarked : P (repointIndex b (Machine.setBlock b (fun e => { e with erasing := true }) s)) :=
    K.setStore _ (K.setBlock b _ h) (.of_eq rfl rfl rfl)
  cases purpose with
  | candidate => exact K.setProgrammer _ hmarked
  | sacrifice => exact K.setProgrammer _ hmarked
  | cleanup => exact K.setProgrammer _ h
  | config => exact K.setProgrammer _ h

theorem takeErased (h : P s) : P (takeErased s) := K.setStore _ h (.of_eq rfl rfl rfl)

theorem beginOpen (a : Area) (h : P s) : P (beginOpen a s) := by
  unfold Machine.beginOpen
  split
  · exact K.setProgrammer _ (K.takeSequence (K.takeErased h))
  · exact h

theorem beginTarget (h : P s) : P (beginTarget s) := by
  unfold Machine.beginTarget
  split
  · exact K.setProgrammer _ (K.takeSequence (K.takeErased h))
  · exact h

theorem beginRelocation (a : Area) (b n : Nat) (h : P s) : P (beginRelocation a b n s) :=
  K.setStore _ (K.setBlock b _ h) (.of_eq rfl rfl rfl)

theorem abandonMirrorRelocation (r : Relocation) (h : P s) : P (abandonMirrorRelocation r s) := by
  unfold Machine.abandonMirrorRelocation
  refine K.stallArea .mirror (K.setRelocation none (K.setBlock _ _ ?_))
  split
  · rename_i hq
    exact K.dropMirror _ (K.setStore _ h ⟨.inl rfl, le_refl _, by rw [hq]; exact Nat.le_succ _⟩)
  · exact h

theorem takeWork (w : Work) (h : P s) : P (takeWork w s) := by
  cases w with
  | targetHeader => exact K.beginTarget h
  | targetErase a =>
    unfold Machine.takeWork
    dsimp only
    split
    · exact K.beginErase _ _ h
    · split
      · exact K.abandonMirrorRelocation _ h
      · exact K.stallArea _ h
  | copySlot _ _ _ => exact K.setProgrammer _ h
  | recordProgram _ _ => exact K.setProgrammer _ h
  | copyEnd _ _ => exact K.setProgrammer _ h
  | cleanupErase b => exact K.beginErase b .cleanup h
  | cleanupHeader _ => exact K.setProgrammer _ (K.takeSequence h)
  | configProgram _ => exact K.setProgrammer _ h
  | configErase => exact K.beginErase 0 .config h
  | headErase a =>
    rw [Machine.takeWork]
    split
    · exact K.beginErase _ _ h
    · exact K.stallArea a h
  | openBlock a => exact K.beginOpen a h
  | owedRelocation a b n => exact K.beginRelocation a b n h
  | headProgram _ _ _ => exact K.setProgrammer _ h
  | eraseAhead b => exact K.beginErase b .candidate h

theorem examineWork (fuel : Nat) (h : P s) : P (examineWork fuel s) := by
  induction fuel generalizing s with
  | zero => exact h
  | succ fuel ih =>
    rw [Machine.examineWork]
    split
    · exact h
    · dsimp only
      split
      · exact K.takeWork _ h
      · exact ih (K.takeWork _ h)

theorem setIndex (x : SlotImage) (b n : Nat) (h : P s) : P (setIndex x b n s) := by
  unfold Machine.setIndex
  split
  · split
    · exact K.setStore _ h (.of_eq rfl rfl rfl)
    · exact h
  · exact h

theorem recordPass (a : Area) (x : SlotImage) (b n : Nat) (h : P s) : P (recordPass a x b n s) := by
  cases a with
  | own =>
    have hout := K.setStore { s.store with ownQueue := s.store.ownQueue.drop 1 } h
      ⟨.inl rfl, by simp, le_refl _⟩
    have hset := K.setRecordLoss false (K.setIndex x b n (K.setBlock b (fun e => widen x { e with fill := n + 1 }) hout))
    unfold Machine.recordPass ownRecordPass
    dsimp only
    split
    · exact K.congr hset (by simp [Kept, Fits])
    · exact hset
  | mirror =>
    have hout := K.setStore { s.store with mirrorQueue := s.store.mirrorQueue.drop 1 } h
      ⟨.inl rfl, le_refl _, by simp⟩
    exact K.updateOrigin _ _ (K.setIndex x b n (K.setBlock b _ hout))

theorem retireToCleanup (b : Nat) (h : P s) : P (retireToCleanup b s) := K.setStore _ (K.setBlock b _ h) (.of_eq rfl rfl rfl)

theorem giveUpWaitingRelocation (h : P s) : P (giveUpWaitingRelocation s) := by
  unfold Machine.giveUpWaitingRelocation
  split
  · split
    · refine K.setRelocation none ?_
      split
      · exact K.retireToCleanup _ (K.setBlock _ _ h)
      · exact K.setBlock _ _ h
    · exact h
  · exact h

theorem abandonTarget (r : Relocation) (b : Nat) (h : P s) : P (abandonTarget r b s) :=
  K.setRelocation _ (K.retireToCleanup b h)

theorem finishCleanup (h : P s) : P (finishCleanup s) := by
  have hout := K.setStore { s.store with cleanup := s.store.cleanup.drop 1 } h (.of_eq rfl rfl rfl)
  unfold Machine.finishCleanup
  dsimp only
  split
  · exact K.setRelocation none hout
  · exact hout

/-! The completions. -/

theorem headComplete (a : Area) (b n : Nat) (pass : Bool) (h : P s) : P (headComplete a b n pass s) := by
  unfold Machine.headComplete
  split
  · exact h
  · rename_i x rest hq
    have hvoid : P (Machine.setBlock b (fun e => { e with fill := n + 1 }) (Machine.writeSlot b n .void s)) :=
      K.setBlock b _ (K.writeSlot b n _ h)
    split
    · exact K.setBlock b _ (K.recordPass a x b n (K.writeSlot b n _ h))
    · dsimp only
      split
      · rename_i hmirror
        obtain ⟨rfl, _⟩ : a = .mirror ∧ _ := by simpa using hmirror
        have hrest : rest.length ≤ s.store.mirrorQueue.length := by
          rw [show s.store.mirrorQueue = x :: rest from hq]; simp
        exact K.setBlock b _ (K.dropMirror x (K.setStore _ hvoid ⟨.inl rfl, le_refl _, hrest⟩))
      · exact K.beginRelocation a b n (K.giveUpWaitingRelocation hvoid)

theorem openHeaderComplete (a : Area) (b q : Nat) (pass : Bool) (h : P s) : P (openHeaderComplete a b q pass s) := by
  unfold Machine.openHeaderComplete
  split
  · exact K.setBlock b _ (K.writeSlot b 0 _ h)
  · exact K.retireToCleanup b (K.writeSlot b 0 _ h)

theorem targetHeaderComplete (b q : Nat) (pass : Bool) (h : P s) : P (targetHeaderComplete b q pass s) := by
  unfold Machine.targetHeaderComplete
  split
  · exact h
  · split
    · exact K.setRelocation _ (K.setBlock b _ (K.writeSlot b 0 _ h))
    · exact K.abandonTarget _ b (K.writeSlot b 0 _ h)

theorem copyComplete (src b n : Nat) (pass : Bool) (h : P s) : P (copyComplete src b n pass s) := by
  unfold Machine.copyComplete
  split
  · exact h
  · split
    · refine K.setRelocation _ (K.setBlock b _ ?_)
      split
      · exact K.writeSlot b n _ h
      · exact h
    · exact K.abandonTarget _ b (K.writeSlot b n _ h)

theorem recordComplete (b n : Nat) (pass : Bool) (h : P s) : P (recordComplete b n pass s) := by
  unfold Machine.recordComplete
  split
  · exact h
  · split
    · split
      · exact h
      · exact K.setRelocation _ (K.recordPass _ _ b n (K.writeSlot b n _ h))
    · exact K.abandonTarget _ b (K.writeSlot b n _ h)

theorem copyEndComplete (b n : Nat) (pass : Bool) (h : P s) : P (copyEndComplete b n pass s) := by
  unfold Machine.copyEndComplete
  split
  · exact h
  · split
    · have hmoved : ∀ src {t : State}, P t → P (moveIndex src b t) := fun src t h => K.setStore _ h (.of_eq rfl rfl rfl)
      exact K.setRelocation _ (K.retireToCleanup _ (hmoved _ (K.setBlock b _ (K.writeSlot b n _ h))))
    · exact K.abandonTarget _ b (K.writeSlot b n _ h)

theorem retiredHeaderComplete (b q : Nat) (pass : Bool) (h : P s) : P (retiredHeaderComplete b q pass s) := by
  unfold Machine.retiredHeaderComplete
  split
  · exact K.finishCleanup (K.setBlock b _ (K.writeSlot b 0 _ h))
  · exact K.finishCleanup (K.writeSlot b 0 _ h)

theorem poolEraseComplete (b : Nat) (purpose : ErasePurpose) (pass : Bool) (h : P s) :
    P (poolEraseComplete b purpose pass s) := by
  have herased : ∀ p, P (fullErased b p s) := by
    intro p
    have hfree : P ((Machine.setBlock b (fun _ => { state := .erased }) (Machine.eraseSlots b s)).setStore
        { (Machine.setBlock b (fun _ => { state := .erased }) (Machine.eraseSlots b s)).store with
          erasedList := (Machine.setBlock b (fun _ => { state := .erased })
            (Machine.eraseSlots b s)).store.erasedList ++ [b] }) :=
      K.setStore _ (K.setBlock b _ (K.eraseSlots b h)) (.of_eq rfl rfl rfl)
    cases p with
    | sacrifice => exact K.offerNotice _ _ hfree
    | candidate => exact hfree
    | cleanup => exact hfree
    | config => exact hfree
  have hretired := K.setBlock b (fun e => { e with state := .retired, erasing := false }) (K.scrambleSlots b h)
  refine K.recheckStalled ?_
  split
  · exact K.setStore _ (K.eraseSlots b h) (.of_eq rfl rfl rfl)
  · exact K.finishCleanup (K.scrambleSlots b h)
  · exact herased _
  · exact hretired

/-! The station controller: a configuration comes into force, and the START. -/

theorem comeIntoForce (f : InForce) (h : P s) : P (comeIntoForce f s) := by
  have hforce := K.setCtrl (s := s.setNorm (reholdAtStart s.config f.image s.norm))
    (K.congr h ⟨rfl, rfl, rfl, rfl, (.of_eq rfl rfl rfl)⟩) { s.ctrl with inForce := some f } rfl
  refine K.congr hforce ⟨rfl, rfl, rfl, rfl, .inl rfl, le_refl _, ?_⟩
  exact dropFormerPartners_length _ _

theorem setDeferred (terminal : Nat) (d : Option Nat) (h : P s) : P (setDeferred terminal d s) := K.setReadout _ h

theorem offerAnswer (k : FrameKind) (terminal taken : Nat) (code : AnswerCode) (h : P s) :
    P (offerAnswer k terminal taken code s) := K.congr h (by simp [Kept, Fits])

theorem answerStart (code : AnswerCode) (h : P s) : P (answerStart code s) := by
  unfold Machine.answerStart
  split
  · exact K.offerAnswer _ _ _ _ (K.setDeferred _ none (K.setCtrl h { s.ctrl with pendingStart := none } rfl))
  · exact h

theorem enterFromSetup (f : InForce) (terminal : Nat) (h : P s) : P (enterFromSetup f terminal s) := by
  unfold Machine.enterFromSetup
  dsimp only
  split
  · exact K.setPeriod (K.enterState _ (K.offerNotice _ _ h)) _ (.inl rfl)
  · exact K.enterState _ (K.offerNotice _ _ h)

theorem carryOutStart (w : ConfigWrite) (h : P s) : P (carryOutStart w s) := by
  unfold Machine.carryOutStart
  split
  · exact K.answerStart _ (K.enterFromSetup _ _ (K.comeIntoForce _ h))
  · exact h

theorem configComplete (n : Nat) (pass : Bool) (h : P s) : P (configComplete n pass s) := by
  have hwritten := fun c => K.writeSlot 0 n c h
  unfold Machine.configComplete
  split
  · exact h
  · split
    · exact K.carryOutStart _ (K.setStore _ (hwritten _) (.of_eq rfl rfl rfl))
    · dsimp only
      split
      · exact K.answerStart _ (K.setStore _ (K.setStore _ (hwritten _) (.of_eq rfl rfl rfl)) (.of_eq rfl rfl rfl))
      · exact K.setStore _ (K.setStore _ (hwritten _) (.of_eq rfl rfl rfl)) (.of_eq rfl rfl rfl)

theorem configEraseComplete (pass : Bool) (h : P s) : P (configEraseComplete pass s) := by
  unfold Machine.configEraseComplete
  split
  · exact K.setStore _ (K.eraseSlots 0 h) (.of_eq rfl rfl rfl)
  · exact K.answerStart _ (K.setStore _ h (.of_eq rfl rfl rfl))

theorem takeConfigureBytes (payload : List Byte) (h : P s) : P (takeConfigureBytes payload s).1 := by
  unfold Machine.takeConfigureBytes
  split
  · exact h
  · unfold takeConfigure
    split
    · split
      · exact h
      · split
        · exact K.setCtrl h _ rfl
        · exact h
    · exact h

theorem takeStartRequest (terminal : Nat) (h : P s) : P (takeStartRequest terminal s) := by
  have hbegun : P (beginStart terminal s.now s) :=
    K.setReadout _ (K.setStore _ (K.setCtrl h { s.ctrl with
      pendingStart := some { terminal := terminal, taken := s.now } } rfl) (.of_eq rfl rfl rfl))
  rcases takeStartRequest_cases terminal s with heq | ⟨code, heq⟩
  · exact heq ▸ hbegun
  · exact heq ▸ K.offerAnswer _ _ _ _ h

/-! A RESULT of a partner. -/

theorem offerMirror (x : SlotImage) (h : P s) : P (offerMirror x s) := by
  unfold Machine.offerMirror
  split
  · exact K.dropMirror x h
  · rename_i hroom
    exact K.offerMirrored x h (by simp at hroom; omega)

theorem takeResult (sender : Nat) (x : SlotImage) (h : P s) : P (takeResult sender x s) := by
  unfold Machine.takeResult
  split
  · exact h
  · split
    · exact h
    · split
      · exact h
      · dsimp only
        split
        · exact h
        · exact K.offerMirror x (K.updateOrigin _ _ h)

/-! The end of the start-up scan. -/

theorem settleBlock (all : List ScannedBlock) (es hs : List Nat) (b : ScannedBlock) (h : P s) :
    P (settleBlock all es hs s b) := by
  unfold Machine.settleBlock
  split
  · unfold scanErase
    split
    · exact K.setBlock _ _ (K.scrambleSlots _ h)
    · exact K.setBlock _ _ (K.eraseSlots _ h)
  · split
    · unfold scanRetire
      split
      · exact K.setBlock _ _ (K.scrambleSlots _ h)
      · dsimp only
        split
        · exact K.setBlock _ _ (K.writeSlot _ _ _ (K.takeSequence (K.eraseSlots _ h)))
        · exact K.setBlock _ _ (K.writeSlot _ _ _ (K.takeSequence (K.eraseSlots _ h)))
    · exact h

theorem openArea (a : Area) (owing : List Nat) (h : P s) : P (openArea a owing s) := by
  unfold Machine.openArea
  split
  · exact K.setBlock _ _ h
  · exact h

theorem listErased (h : P s) : P (s.setStore { s.store with erasedList := erasedBlocks s.store }) :=
  K.setStore _ h (.of_eq rfl rfl rfl)

theorem settleStore (es hs : List Nat) (h : P s) : P (settleStore es hs s) := by
  have hscanned := K.setStore { s.store with
    blocks := { state := .config } :: (scanBlocks s.store.die).map (fun b => b.entry s.station),
    sequenceCounter := scanCounter (scanBlocks s.store.die) } h
    ⟨.inr (by simp [scanBlocks]), le_refl _, le_refl _⟩
  exact K.listErased (K.openArea _ _ (K.openArea _ _
    (List.foldlRecOn _ _ hscanned fun _ h b _ => K.settleBlock _ es hs b h)))

theorem locateConfig (h : P s) : P (locateConfig s) := K.setStore _ h (.of_eq rfl rfl rfl)

theorem judgeStore (h : P s) : P (judgeStore s) := K.setStore _ h (.of_eq rfl rfl rfl)

theorem formIndex (h : P s) : P (formIndex s) := K.setStore _ h (.of_eq rfl rfl rfl)

theorem handOverMirror (h : P s) : P (handOverMirror s) := by
  refine K.setMirror h _ ?_
  exact List.foldlRecOn (motive := fun o : List OriginEntry => o.length = s.mirror.origins.length) _ _ rfl
    fun o h p _ => by rw [updateAt, List.length_modify, h]

theorem handOverPeriod (newest : Option Id) (own : List SlotImage) (h : P s) : P (handOverPeriod newest own s) :=
  K.setPeriod h _ (.inr (rebuildSummary_size own))

theorem restoreLevels (carried : Nat) (h : P s) : P (restoreLevels carried s) := by
  unfold Machine.restoreLevels
  split
  · split
    · exact K.enterCutoff _ h
    · split
      · exact K.enterAbnormal _ _ h
      · exact h
  · exact h

theorem handOverPlant (own : List SlotImage) (h : P s) : P (handOverPlant own s) := by
  unfold Machine.handOverPlant
  dsimp only
  generalize hp : Plant.mk .. = p
  have hset : P (Machine.setMachine (restoreLatch own).1 (s.setPlant p)) := by
    subst hp
    exact K.setMachine _ (K.setPlant h _ rfl rfl rfl rfl)
  split
  · exact K.restoreLevels _ (K.offerNotice _ _ hset)
  · split
    · exact hset
    · exact K.restoreLevels _ hset

theorem handOverController (h : P s) : P (handOverController s) := by
  have hedit := K.setCtrl h { s.ctrl with edit := scanEdit s } rfl
  have hstart : ∀ {t : State}, P t → P (startUntimedTimer t) := fun h =>
    K.beginMinuteFlags (K.setPlant h _ rfl rfl rfl rfl)
  unfold Machine.handOverController
  dsimp only
  split
  · exact K.enterState _ hedit
  · split
    · exact hstart (K.enterState _ (K.comeIntoForce _ hedit))
    · exact hstart (K.enterState _ hedit)

theorem scanEnds (es hs : List Nat) (h : P s) : P (scanEnds es hs s) := by
  have hfound := K.formIndex (K.judgeStore (K.locateConfig (K.settleStore es hs h)))
  unfold Machine.scanEnds
  split
  · exact K.handOverController (K.handOverPlant _ (K.handOverPeriod _ _ (K.handOverMirror hfound)))
  · exact h

/-! The completions of the programmer. -/

theorem programComplete (pass : Bool) (h : P s) : P (programComplete pass s) := by
  have hidle := K.setProgrammer none h
  unfold Machine.programComplete
  dsimp only
  split
  · exact K.headComplete _ _ _ pass hidle
  · exact K.openHeaderComplete _ _ _ pass hidle
  · exact K.targetHeaderComplete _ _ pass hidle
  · exact K.recordComplete _ _ pass hidle
  · exact K.copyEndComplete _ _ pass hidle
  · exact K.retiredHeaderComplete _ _ pass hidle
  · exact K.configComplete _ pass hidle
  · exact h
  · exact h
  · exact h

theorem eraseComplete (pass : Bool) (h : P s) : P (eraseComplete pass s) := by
  have hidle := K.setProgrammer none h
  unfold Machine.eraseComplete
  split
  · exact K.recheckStalled (K.configEraseComplete pass hidle)
  · exact K.poolEraseComplete _ _ pass hidle
  · exact h

theorem slotCopyComplete (pass : Bool) (h : P s) : P (slotCopyComplete pass s) := by
  unfold Machine.slotCopyComplete
  split
  · exact K.copyComplete _ _ _ pass (K.setProgrammer none h)
  · exact h

theorem startWork (h : P s) : P (startWork s) := by
  unfold Machine.startWork
  split
  · exact K.examineWork 8 h
  · exact h

end StoreInvariant

/-- Such a property is kept by every command but the reset. -/
theorem StoreInvariant.after {P : State → Prop} (K : StoreInvariant P) {c : Instr} {s : State}
    (hreset : ∀ straps fire feed clean trip, c ≠ .powerOnReset straps fire feed clean trip) (h : P s) : P (after c s) := by
  have hlink : ∀ (s : State) l, receptionOnly s.link l → P s → P (s.setLink l) := fun s l _ h => K.setLink l h
  have hanswer : ∀ {k n t code} {s : State}, P s → P (Machine.offerAnswer k n t code s) :=
    fun h => K.offerAnswer _ _ _ _ h
  cases c with
  | inputEdge line active =>
    rw [Proofs.after]
    split
    · exact h
    · exact K.takeEdge _ _ h
  | minuteClose => exact K.minuteEnds h
  | untimedMinuteClose => exact K.untimedEnds h
  | mark sender target payload => exact receiveKind_keeps hlink (fun _ h => K.takeMark _ h) h
  | time sender target payload =>
    exact receiveRequest_keeps hlink (fun _ _ h => hanswer h) (fun _ h => hanswer (K.takeTime _ _ h)) h
  | release sender target payload =>
    exact receiveRequest_keeps hlink (fun _ _ h => hanswer h) (fun _ h => hanswer (K.takeRelease _ h)) h
  | restart sender target payload =>
    exact receiveRequest_keeps hlink (fun _ _ h => hanswer h) (fun _ h => hanswer (K.takeRestart _ h)) h
  | entryExpired =>
    rw [Proofs.after, expireEntry]
    split
    · exact h
    · exact K.elapse _ (K.setLink _ h)
  | loadEntryAgeOut n =>
    rw [Proofs.after, ageOut]
    split
    · split
      · exact h
      · exact K.congr (K.elapse _ h) ⟨rfl, rfl, rfl, rfl, (.of_eq rfl rfl rfl)⟩
    · exact h
  | powerOnReset straps fire feed clean trip => exact absurd rfl (hreset straps fire feed clean trip)
  | programmerStart => exact K.startWork h
  | slotProgramComplete pass => exact K.programComplete pass h
  | blockEraseComplete pass => exact K.eraseComplete pass h
  | slotCopyComplete pass => exact K.slotCopyComplete pass h
  | scanComplete es hs => exact K.scanEnds es hs h
  | result sender target payload => exact receiveKind_keeps hlink (fun _ h => K.takeResult _ _ h) h
  | configure sender target payload =>
    exact receiveRequest_keeps hlink (fun _ _ h => hanswer h) (fun _ h => hanswer (K.takeConfigureBytes _ h)) h
  | start sender target payload =>
    exact receiveRequest_keeps hlink (fun _ _ h => hanswer h) (fun _ h => K.takeStartRequest _ h) h
  | _ =>
    refine K.congr h ?_
    simp [Kept, Fits, Proofs.after, apply_ite State.plant, apply_ite State.store, apply_ite State.ctrl,
      apply_ite State.period, apply_ite State.mirror]

/-- Such a property that a reset has too is kept by every step. -/
theorem StoreInvariant.step_keeps {P : State → Prop} (K : StoreInvariant P)
    (hreset : ∀ straps fire feed clean trip s, P s → P (resetState straps fire feed clean trip s)) :
    ∀ s t, P s → step s = .next t → P t := by
  refine Proofs.step_keeps (fun s q h => K.congr h ⟨rfl, rfl, rfl, rfl, .of_eq rfl rfl rfl⟩)
    (fun s h => K.elapse _ h) fun c s h => ?_
  by_cases hc : ∃ straps fire feed clean trip, c = .powerOnReset straps fire feed clean trip
  · obtain ⟨straps, fire, feed, clean, trip, rfl⟩ := hc
    exact hreset straps fire feed clean trip s h
  · exact K.after (fun straps fire feed clean trip hc' => hc ⟨straps, fire, feed, clean, trip, hc'⟩) h

end Sys2Proof.Proofs

/-! The invariants of the output lines and of the two record queues, and what only some commands can end. -/

namespace Sys2Proof.Proofs

open Sys2Proof.Machine Sys2Proof.Laws

/-! The output lines (R77, R78). -/

theorem linesAgree_driveOutputs (s : State) : (driveOutputs s).linesAgree := ⟨rfl, rfl⟩

theorem linesAgree_congr {s t : State} (h : s.linesAgree) (hpermit : t.plant.permit = s.plant.permit)
    (hfault : t.plant.faultLine = s.plant.faultLine) (hmachine : t.plant.machine = s.plant.machine)
    (hloss : t.plant.recordLoss = s.plant.recordLoss) (hstate : t.ctrl.state = s.ctrl.state) : t.linesAgree := by
  rwa [State.linesAgree, hpermit, hfault, hmachine, hloss, hstate]

theorem linesAgree_offerOwn {s : State} (r : SlotImage) (h : s.linesAgree) : (offerOwn r s).linesAgree := by
  unfold offerOwn
  split
  · exact h
  · split
    · exact linesAgree_congr h rfl rfl rfl rfl rfl
    · exact linesAgree_driveOutputs _

theorem linesAgree_invariant : StoreInvariant State.linesAgree where
  congr h hkept := by
    obtain ⟨hplant, hctrl, _⟩ := hkept
    exact linesAgree_congr h (by rw [hplant]) (by rw [hplant]) (by rw [hplant]) (by rw [hplant]) (by rw [hctrl])
  setPlant h x hpermit hfault hmachine hloss := linesAgree_congr h hpermit hfault hmachine hloss rfl
  setMachine _ _ := linesAgree_driveOutputs _
  setRecordLoss _ _ := linesAgree_driveOutputs _
  enterState _ _ := linesAgree_driveOutputs _
  setCtrl h _ hstate := linesAgree_congr h rfl rfl rfl rfl hstate
  setSummary h _ _ := linesAgree_congr h rfl rfl rfl rfl rfl
  setMirror h _ _ := linesAgree_congr h rfl rfl rfl rfl rfl
  offerOwn r h := linesAgree_offerOwn r h
  offerMirrored _ h _ := linesAgree_congr h rfl rfl rfl rfl rfl

/-- Settles O21: PERMIT and FAULT are driven by the updates they depend on, and every command is made of such. -/
theorem outputLinesStayAsDecided : Obligations.OutputLinesStayAsDecided :=
  linesAgree_invariant.step_keeps fun _ _ _ _ _ _ _ => ⟨rfl, rfl⟩

/-! The two record queues (R132, R134). -/

/-- The own record queue and the mirror intake queue hold at most 8 records. -/
def recordQueuesBounded (s : State) : Prop := s.store.ownQueue.length ≤ 8 ∧ s.store.mirrorQueue.length ≤ 8

theorem recordQueuesBounded_offerOwn {s : State} (r : SlotImage) (h : recordQueuesBounded s) :
    recordQueuesBounded (offerOwn r s) := by
  obtain ⟨hown, hmirror⟩ := h
  unfold offerOwn
  split
  · exact ⟨hown, hmirror⟩
  · split
    · exact ⟨by simp; omega, hmirror⟩
    · exact ⟨hown, hmirror⟩

theorem recordQueuesBounded_invariant : StoreInvariant recordQueuesBounded where
  congr h hkept := by
    obtain ⟨_, _, _, _, _, hown, hmirror⟩ := hkept
    exact ⟨hown.trans h.1, hmirror.trans h.2⟩
  setPlant h _ _ _ _ _ := h
  setMachine _ h := h
  setRecordLoss _ h := h
  enterState _ h := h
  setCtrl h _ _ := h
  setSummary h _ _ := h
  setMirror h _ _ := h
  offerOwn r h := recordQueuesBounded_offerOwn r h
  offerMirrored _ h hroom := ⟨h.1, by simp; omega⟩

theorem recordQueuesBounded_step : ∀ s t, recordQueuesBounded s → step s = .next t → recordQueuesBounded t :=
  recordQueuesBounded_invariant.step_keeps fun _ _ _ _ _ _ _ => ⟨Nat.zero_le _, Nat.zero_le _⟩

/-! The tables of the store, of the partners and of the year summary. -/

/-- The block table, the partners' table and the summary's components have their sizes. -/
def storeTablesSized (s : State) : Prop :=
  s.store.blocks.length = 256 ∧ s.mirror.origins.length = 8 ∧ s.period.summary.components.length = 8

theorem storeTablesSized_offerOwn {s : State} (r : SlotImage) (h : storeTablesSized s) :
    storeTablesSized (offerOwn r s) := by
  unfold offerOwn
  split
  · exact h
  · split
    · exact h
    · exact h

theorem storeTablesSized_invariant : StoreInvariant storeTablesSized where
  congr h hkept := by
    obtain ⟨_, _, hsummary, hmirror, hblocks, _⟩ := hkept
    obtain ⟨hb, ho, hs⟩ := h
    exact ⟨hblocks.elim (fun e => e.trans hb) id, by rw [hmirror, ho], by rw [hsummary, hs]⟩
  setPlant h _ _ _ _ _ := h
  setMachine _ h := h
  setRecordLoss _ h := h
  enterState _ h := h
  setCtrl h _ _ := h
  setSummary h y hy := ⟨h.1, h.2.1, hy.elim (fun e => e.trans h.2.2) id⟩
  setMirror h _ hx := ⟨h.1, hx.trans h.2.1, h.2.2⟩
  offerOwn r h := storeTablesSized_offerOwn r h
  offerMirrored _ h _ := h

theorem blankBlocks_length : blankBlocks.length = 256 := by
  rw [blankBlocks, List.length_cons, List.length_replicate]

theorem storeTablesSized_step : ∀ s t, storeTablesSized s → step s = .next t → storeTablesSized t :=
  storeTablesSized_invariant.step_keeps fun _ _ _ _ _ _ _ =>
    ⟨blankBlocks_length, rfl, rfl⟩

end Sys2Proof.Proofs

/-! The transmit queue, for proofs over all commands: every command makes what it makes of it by the updates of
`LinkInvariant`, so that an invariant of the queue need only be checked for those. -/

namespace Sys2Proof.Proofs

open Sys2Proof.Machine Sys2Proof.Laws

/-- What an entry is when it joins the queue of a link controller: it waits, it is offered now and not past its deadline,
and it is a broadcast, or a reply to a terminal that `ok` allows. -/
structure Fresh (ok : Nat → Prop) (l : Link) (e : TxEntry) : Prop where
  waits : e.sending = false
  now : e.offered = l.deadlineTimer
  due : l.deadlineTimer ≤ e.deadline
  kind : e.kind.frameClass = .broadcast ∨ (e.kind.frameClass = .reply ∧ ∃ n, e.terminal = some n ∧ ok n)

/-- What becomes of the entry whose attempt ends: it goes, or waits again while neither its deadline is passed nor a newer
entry waits in its place. -/
def Settles (l : Link) (e : TxEntry) (kept : Option TxEntry) : Prop :=
  kept = none ∨ ∃ errors, kept = some { e with sending := false, errors := errors } ∧ l.deadlineTimer < e.deadline ∧
    superseded l e = false

/-- A property of the queue, the attempt and the deadline timer that is kept by the updates of which the commands make their
operations on the transmit queue; `ok` says which terminals are replied to. -/
structure LinkInvariant (ok : Nat → Prop) (Q : Link → Prop) : Prop where
  sub : ∀ {l l' : Link}, Q l → l'.queue.Sublist l.queue → l'.attempt = l.attempt → l'.deadlineTimer = l.deadlineTimer → Q l'
  joins : ∀ {l : Link} {e : TxEntry} {kept : List TxEntry}, Q l → kept.Sublist l.queue →
    kept.length < 8 ∨ kept.length < l.queue.length → Fresh ok l e → (∀ o ∈ kept, o.sending = true ∨ e.replaces o = false) →
    Q { l with queue := kept ++ [e] }
  elapses : ∀ {l l' : Link}, Q l →
    l'.queue = l.queue.filter (fun x => x.sending || decide (l'.deadlineTimer ≤ x.deadline)) →
    (l'.attempt = none → l.attempt = none) → l.deadlineTimer ≤ l'.deadlineTimer → Q l'
  begins : ∀ {l : Link} {n : Nat}, Q l → l.attempt = none →
    Q { l with attempt := some 0, queue := updateAt l.queue n (fun e => { e with sending := true }) }
  ends : ∀ {l : Link} {e : TxEntry} {kept : Option TxEntry}, Q l → l.attempt ≠ none → l.sendingEntry = some e →
    Settles l e kept → Q (endAttempt kept l)

/-! What the queue's operations do. -/

theorem dropYoungestResult_sublist {q q' : List TxEntry} (h : dropYoungestResult q = some q') :
    q'.Sublist q ∧ q'.length < q.length := by
  induction q generalizing q' with
  | nil => cases h
  | cons e rest ih =>
    unfold dropYoungestResult at h
    cases hrest : dropYoungestResult rest with
    | some rest' =>
      rw [hrest] at h
      cases h
      obtain ⟨hsub, hlen⟩ := ih hrest
      exact ⟨hsub.cons_cons e, by simpa using hlen⟩
    | none =>
      rw [hrest] at h
      dsimp only at h
      split at h
      · cases h
        exact ⟨List.sublist_cons_self .., by simp⟩
      · cases h

/-- R93 to R95: an entry that joins stands at the back of what the queue keeps, none of which it would replace; or the full
queue stays as it is. -/
theorem joinQueue_cases (e : TxEntry) (s : State) :
    (joinQueue e s).link = s.link ∨ ∃ kept misses, (joinQueue e s).link =
      { s.link with queue := kept ++ [e], resultMisses := misses } ∧ kept.Sublist s.link.queue ∧
      (kept.length < 8 ∨ kept.length < s.link.queue.length) ∧ ∀ o ∈ kept, o.sending = true ∨ e.replaces o = false := by
  have hkept : ∀ o ∈ s.link.queue.filter (fun o => o.sending || !e.replaces o), o.sending = true ∨ e.replaces o = false :=
    fun o ho => by simpa using (List.mem_filter.mp ho).2
  unfold joinQueue
  dsimp only
  split
  · exact .inr ⟨_, _, rfl, List.filter_sublist, .inr ‹_›, hkept⟩
  · rename_i hlen
    have hall : s.link.queue.filter (fun o => o.sending || !e.replaces o) = s.link.queue :=
      List.filter_eq_self.mpr (List.length_filter_eq_length_iff.mp
        (le_antisymm (List.length_filter_le ..) (not_lt.mp hlen)))
    rw [hall] at hkept
    split
    · exact .inr ⟨_, _, rfl, List.Sublist.refl _, .inl ‹_›, hkept⟩
    · split
      · rename_i q hq
        obtain ⟨hsub, hshort⟩ := dropYoungestResult_sublist hq
        exact .inr ⟨q, _, rfl, hsub, .inr hshort, fun o ho => hkept o (hsub.subset ho)⟩
      · exact .inl rfl

theorem superseded_errors (l l' : Link) (e : TxEntry) (errors : Nat) (h : l'.queue = l.queue) :
    superseded l' { e with errors := errors } = superseded l e := by
  simp [superseded, TxEntry.replaces, h]

namespace LinkInvariant

variable {ok : Nat → Prop} {Q : Link → Prop} (K : LinkInvariant ok Q)
include K

theorem congr {l l' : Link} (h : Q l) (hq : l'.queue = l.queue) (ha : l'.attempt = l.attempt)
    (ht : l'.deadlineTimer = l.deadlineTimer) : Q l' := K.sub h (hq ▸ List.Sublist.refl _) ha ht

theorem joinQueue {s : State} {e : TxEntry} (h : Q s.link) (he : Fresh ok s.link e) : Q (joinQueue e s).link := by
  rcases joinQueue_cases e s with heq | ⟨kept, misses, heq, hsub, hlen, hnot⟩
  · rwa [heq]
  · rw [heq]
    exact K.congr (K.joins h hsub hlen he hnot) rfl rfl rfl

theorem offerBroadcast {s : State} {k : FrameKind} {payload : List Byte} (hk : k.frameClass = .broadcast)
    (h : Q s.link) : Q (offerBroadcast k payload s).link :=
  K.joinQueue h ⟨rfl, rfl, Nat.le_add_right .., .inl hk⟩

theorem offerResult {s : State} {payload : List Byte} (h : Q s.link) : Q (offerResult payload s).link := by
  unfold Machine.offerResult
  split
  · exact K.joins h (List.Sublist.refl _) (.inl ‹_›) ⟨rfl, rfl, Nat.le_add_right .., .inl rfl⟩ fun _ _ => .inr rfl
  · exact K.congr h rfl rfl rfl

theorem offerReply {s : State} {k : FrameKind} {terminal taken : Nat} {payload : List Byte}
    (hk : k.frameClass = .reply) (hok : ok terminal) (h : Q s.link) : Q (offerReply k terminal taken payload s).link := by
  unfold Machine.offerReply
  split
  · exact K.joinQueue h ⟨rfl, rfl, ‹_›, .inr ⟨hk, terminal, rfl, hok⟩⟩
  · exact K.congr h rfl rfl rfl

theorem offerAnswer {s : State} {k : FrameKind} {terminal taken : Nat} {code : AnswerCode}
    (hok : ok terminal) (h : Q s.link) : Q (offerAnswer k terminal taken code s).link := K.offerReply rfl hok h

theorem elapse {s : State} {dt : Nat} (h : Q s.link) : Q (elapse dt s).link := by
  obtain ⟨hqueue, _, _, _, _, _, htimer, hattempt⟩ := elapse_link dt s
  refine K.elapses h (by rw [hqueue, htimer]) (fun hnone => ?_) (by omega)
  rw [hnone] at hattempt
  exact Option.not_isSome_iff_eq_none.mp (by simp [← hattempt])

/-! Sending (R88 to R91). -/

theorem beginAttempt {s : State} (h : Q s.link) : Q (beginAttempt s).link := by
  unfold Machine.beginAttempt
  split
  · exact K.congr (K.begins h ‹_›) rfl rfl rfl
  · exact h

theorem settleEntry {l : Link} {e e' : TxEntry} {errors : Nat} (h : Q l) (ha : l.attempt ≠ none)
    (hs : l.sendingEntry = some e') (he : e = { e' with errors := errors }) : Q (settleEntry e l) := by
  subst he
  unfold Machine.settleEntry
  split
  · exact K.congr (K.ends h ha hs (.inl rfl)) rfl rfl rfl
  · split
    · exact K.ends h ha hs (.inl rfl)
    · rename_i hdue hnew
      refine K.ends h ha hs (.inr ⟨errors, rfl, not_le.mp hdue, ?_⟩)
      rw [← superseded_errors l l e' errors rfl]
      exact Bool.eq_false_iff.mpr hnew

theorem loseArbitration {s : State} (h : Q s.link) : Q (loseArbitration s).link := by
  unfold Machine.loseArbitration
  split
  · rename_i bits e hbits hsending
    exact K.settleEntry (errors := e.errors) h (by rw [hbits]; exact Option.some_ne_none _) hsending rfl
  · exact h

theorem failAttempt {s : State} (h : Q s.link) : Q (failAttempt s).link := by
  unfold Machine.failAttempt
  split
  · rename_i bits e hbits hsending
    have hcounted : Q { s.link with transmitErrors := count16 s.link.transmitErrors 1 } := K.congr h rfl rfl rfl
    have hattempt : s.link.attempt ≠ none := by rw [hbits]; exact Option.some_ne_none _
    have hsettled := K.settleEntry (errors := e.errors + 1) hcounted hattempt hsending rfl
    have hgone := K.ends hcounted hattempt hsending (.inl rfl)
    dsimp only
    refine K.congr (l := if 16 ≤ e.errors + 1 then _ else _) ?_ rfl rfl rfl
    split
    · unfold dropAtSixteen
      split
      · exact hsettled
      · dsimp only
        split
        · exact K.congr hgone rfl rfl rfl
        · exact K.congr hgone rfl rfl rfl
    · exact hsettled
  · exact h

theorem completeAttempt {s : State} (h : Q s.link) : Q (completeAttempt s).link := by
  unfold Machine.completeAttempt
  split
  · rename_i bits e hbits hsending
    exact K.congr (K.ends h (by rw [hbits]; exact Option.some_ne_none _) hsending (.inl rfl)) rfl rfl rfl
  · exact h

theorem expireEntry {s : State} (h : Q s.link) : Q (expireEntry s).link := by
  unfold Machine.expireEntry
  split
  · exact h
  · exact K.elapse (K.sub h (List.eraseIdx_sublist ..) rfl rfl)

end LinkInvariant

end Sys2Proof.Proofs

/-! The transmit queue under the commands of the station. -/

namespace Sys2Proof.Proofs

open Sys2Proof.Machine Sys2Proof.Laws

/-- The replies still to be formed go to terminals that `ok` allows: those of the READs that wait and of the pending START. -/
def Addressed (ok : Nat → Prop) (s : State) : Prop :=
  (∀ r ∈ s.readout.waiting, ok r.terminal) ∧ ∀ p, s.ctrl.pendingStart = some p → ok p.terminal

/-- An invariant of the transmit queue, with the addresses of the replies to come. -/
def QueueKept (ok : Nat → Prop) (Q : Link → Prop) (s : State) : Prop := Q s.link ∧ Addressed ok s

/-! The pending START, which entering a state, a setting and a CONFIGURE leave (R187, R188). -/

@[simp] theorem enterState_pendingStart (st : StationState) (s : State) :
    (enterState st s).ctrl.pendingStart = s.ctrl.pendingStart := by simp [enterState]

@[simp] theorem acquireTime_pendingStart (t : StationTime) (last : Option LastClosed) (s : State) :
    (acquireTime t last s).ctrl.pendingStart = s.ctrl.pendingStart := by simp [acquireTime]

@[simp] theorem takeTime_pendingStart (terminal : Nat) (f : TimeFields) (s : State) :
    (takeTime terminal f s).1.ctrl.pendingStart = s.ctrl.pendingStart := by
  unfold takeTime
  split
  · rfl
  · split <;> simp

@[simp] theorem takeConfigureBytes_pendingStart (payload : List Byte) (s : State) :
    (takeConfigureBytes payload s).1.ctrl.pendingStart = s.ctrl.pendingStart := by
  unfold takeConfigureBytes takeConfigure
  (repeat' split) <;> rfl

@[simp] theorem enterFromSetup_pendingStart (f : InForce) (terminal : Nat) (s : State) :
    (enterFromSetup f terminal s).ctrl.pendingStart = s.ctrl.pendingStart := by
  unfold enterFromSetup
  dsimp only
  split <;> simp

@[simp] theorem comeIntoForce_pendingStart (f : InForce) (s : State) :
    (comeIntoForce f s).ctrl.pendingStart = s.ctrl.pendingStart := rfl

@[simp] theorem handOverController_pendingStart (s : State) :
    (handOverController s).ctrl.pendingStart = s.ctrl.pendingStart := by
  unfold handOverController
  dsimp only
  (repeat' split) <;> simp

theorem receives_terminal {s : State} {k : FrameKind} {sender target : Byte} {payload : List Byte}
    (hk : k.frameClass = .request) (h : s.receives k sender target payload) : isTerminal sender.toNat = true := by
  have hallowed := h.allowed
  simp only [frameAllowed, Bool.and_eq_true, senderAllowed, hk] at hallowed
  exact hallowed.1.1

namespace LinkInvariant

variable {ok : Nat → Prop} {Q : Link → Prop} (K : LinkInvariant ok Q) {s t : State}
include K

omit K in
theorem kept_congr (h : QueueKept ok Q s) (hlink : t.link = s.link) (hwaiting : t.readout.waiting = s.readout.waiting)
    (hpending : t.ctrl.pendingStart = s.ctrl.pendingStart) : QueueKept ok Q t := by
  rwa [QueueKept, Addressed, hlink, hwaiting, hpending]

omit K in
theorem kept_of_link (h : QueueKept ok Q s) (hlink : Q t.link) (hwaiting : t.readout.waiting = s.readout.waiting)
    (hpending : t.ctrl.pendingStart = s.ctrl.pendingStart) : QueueKept ok Q t :=
  ⟨hlink, by rw [Addressed, hwaiting, hpending]; exact h.2⟩

/-! Time and the closes. -/

theorem kept_elapse (dt : Nat) (h : QueueKept ok Q s) : QueueKept ok Q (Machine.elapse dt s) :=
  kept_of_link h (K.elapse h.1) (by simp) (by simp)

theorem kept_shareMinuteClose (r : LoadReport) (h : QueueKept ok Q s) : QueueKept ok Q (shareMinuteClose r s) := by
  unfold shareMinuteClose
  split
  · exact h
  · dsimp only
    split
    · exact kept_of_link h (K.offerBroadcast rfl h.1) (by simp) (by simp)
    · exact h

theorem kept_closeMeasurement (m : MinuteId) (h : QueueKept ok Q s) : QueueKept ok Q (closeMeasurement m s) := by
  unfold closeMeasurement
  split
  · exact h
  · dsimp only
    refine kept_congr (K.kept_shareMinuteClose _ (kept_congr h ?_ ?_ ?_)) rfl rfl rfl <;>
      simp [apply_ite State.link, apply_ite State.readout, apply_ite State.ctrl]

theorem kept_closeInterval (early : Bool) (closing next : Id) (h : QueueKept ok Q s) :
    QueueKept ok Q (closeInterval early closing next s) := by
  have hperiod : QueueKept ok Q (periodIntervalClose early next s) := kept_congr h (by simp) (by simp) (by simp)
  unfold closeInterval
  dsimp only
  split
  · exact kept_of_link hperiod (K.offerBroadcast rfl hperiod.1) (by simp) (by simp)
  · exact hperiod

theorem kept_closeMinute (early : Bool) (h : QueueKept ok Q s) : QueueKept ok Q (closeMinute early s) := by
  unfold closeMinute
  split
  · exact h
  · rename_i now _
    have hmeasured := K.kept_closeMeasurement now.minuteId
      (kept_congr h (t := copyClosedFlags (s.setClock (s.clock.close now))) rfl rfl rfl)
    have hinterval : ∀ {t : State}, QueueKept ok Q t → QueueKept ok Q (if now.minute % 30 = 29 then
        closeInterval early now.interval now.nextMinute.interval t else t) := fun h => by
      split
      · exact K.kept_closeInterval _ _ _ h
      · exact h
    dsimp only
    split
    · exact kept_congr (hinterval hmeasured) (by simp) (by simp) (by simp)
    · exact kept_congr (hinterval hmeasured) (by simp) (by simp) (by simp)

theorem kept_takeMark (i : Id) (h : QueueKept ok Q s) : QueueKept ok Q (takeMark i s) := by
  have hclose := K.kept_closeMinute true h
  unfold takeMark
  split
  · exact h
  · exact h
  · exact h
  · split
    · exact kept_congr h (by simp) (by simp) (by simp)
    · exact h
  · unfold decideMark
    split
    · exact kept_congr h rfl rfl rfl
    · split
      · exact kept_congr h rfl rfl rfl
      · split
        · split
          · exact hclose
          · exact kept_congr h rfl rfl rfl
        · split
          · exact h
          · exact kept_congr h rfl rfl rfl

/-! Answers. -/

theorem kept_offerReply (k : FrameKind) (terminal taken : Nat) (payload : List Byte) (hk : k.frameClass = .reply)
    (hok : ok terminal) (h : QueueKept ok Q s) : QueueKept ok Q (Machine.offerReply k terminal taken payload s) :=
  kept_of_link h (K.offerReply hk hok h.1) (by simp) (by simp)

theorem kept_offerAnswer (k : FrameKind) (terminal taken : Nat) (code : AnswerCode) (hok : ok terminal)
    (h : QueueKept ok Q s) : QueueKept ok Q (Machine.offerAnswer k terminal taken code s) :=
  K.kept_offerReply _ _ _ _ rfl hok h

theorem kept_takeStatus (terminal : Nat) (payload : List Byte) (hok : ok terminal) (h : QueueKept ok Q s) :
    QueueKept ok Q (takeStatus terminal payload s) := by
  unfold takeStatus
  split
  · exact K.kept_offerReply _ _ _ _ rfl hok h
  · exact K.kept_offerAnswer _ _ _ _ hok h

/-! READs. -/

omit K in
/-- The READs that wait keep their terminals when a window is replaced or goes. -/
theorem setWindow_addressed {r : Readout} {terminal : Nat} {w : Option Window}
    (h : ∀ x ∈ r.waiting, ok x.terminal) : ∀ x ∈ (r.setWindow terminal w).waiting, ok x.terminal := by
  intro x hx
  obtain ⟨y, hy, rfl⟩ := List.mem_map.mp hx
  unfold WaitingRead.keepWindow
  split
  · exact h y hy
  · exact h y hy

omit K in
theorem keepWindows_addressed {r : Readout} {keep : Window → Bool} (h : ∀ x ∈ r.waiting, ok x.terminal) :
    ∀ x ∈ (r.keepWindows keep).waiting, ok x.terminal := by
  refine List.foldlRecOn (motive := fun r : Readout => ∀ x ∈ r.waiting, ok x.terminal) _ _ h fun r h n _ => ?_
  split
  · exact h
  · exact setWindow_addressed h

omit K in
theorem updateWindow_addressed {r : Readout} {terminal : Nat} {w : Window} (h : ∀ x ∈ r.waiting, ok x.terminal) :
    ∀ x ∈ (updateWindow terminal w r).waiting, ok x.terminal := by
  intro x hx
  obtain ⟨y, hy, rfl⟩ := List.mem_map.mp hx
  split
  · exact h y hy
  · exact h y hy

theorem kept_serveRead (r : WaitingRead) (w : Window) (hok : ok r.terminal) (h : QueueKept ok Q s) :
    QueueKept ok Q (serveRead r w s) :=
  K.kept_offerReply _ _ _ _ rfl hok ⟨h.1, updateWindow_addressed h.2.1, h.2.2⟩

theorem kept_takeRead (terminal : Nat) (payload : List Byte) (hok : ok terminal) (h : QueueKept ok Q s) :
    QueueKept ok Q (takeRead terminal payload s) := by
  unfold takeRead
  split
  · exact K.kept_offerAnswer _ _ _ _ hok h
  · split
    · exact K.kept_offerAnswer _ _ _ _ hok h
    · unfold takeReadOf
      dsimp only
      split
      · refine ⟨h.1, fun x hx => ?_, h.2.2⟩
        rcases List.mem_append.mp hx with hx | hx
        · exact h.2.1 x hx
        · rw [List.mem_singleton.mp hx]
          exact hok
      · exact K.kept_serveRead _ _ hok h

theorem kept_serveWaiting (h : QueueKept ok Q s) : QueueKept ok Q (serveWaiting s) := by
  unfold serveWaiting
  split
  · rename_i r rest _ hwaiting
    have hok : ok r.terminal := h.2.1 r (by rw [hwaiting]; exact List.mem_cons_self ..)
    have hrest : QueueKept ok Q (s.setReadout { s.readout with waiting := rest }) :=
      ⟨h.1, fun x hx => h.2.1 x (by rw [hwaiting]; exact List.mem_cons_of_mem _ hx), h.2.2⟩
    dsimp only
    split
    · exact K.kept_serveRead _ _ hok hrest
    · exact K.kept_offerAnswer _ _ _ _ hok hrest
  · exact h

omit K in
theorem kept_takeWindow (terminal : Nat) (payload : List Byte) (h : QueueKept ok Q s) :
    QueueKept ok Q (takeWindow terminal payload s).1 := by
  unfold takeWindow
  split
  · exact h
  · rename_i f _
    split
    · exact ⟨h.1, setWindow_addressed (w := some (newWindow f s.readout.serial)) h.2.1, h.2.2⟩
    · exact h

omit K in
theorem kept_takeRestart (terminal : Nat) (h : QueueKept ok Q s) : QueueKept ok Q (takeRestart terminal s).1 := by
  have hout : QueueKept ok Q (carryOutRestart terminal s) := by
    refine ⟨?_, keepWindows_addressed ?_, ?_⟩
    · simpa using h.1
    · simpa using h.2.1
    · simpa [carryOutRestart] using h.2.2
  unfold takeRestart
  split
  · exact hout
  · exact hout
  · exact h
  · exact h
  · exact h

/-! START. -/

theorem kept_answerStart (code : AnswerCode) (h : QueueKept ok Q s) : QueueKept ok Q (answerStart code s) := by
  unfold answerStart
  split
  · rename_i p hp
    exact K.kept_offerAnswer _ _ _ _ (h.2.2 p hp) ⟨h.1, h.2.1, fun _ hq => nomatch hq⟩
  · exact h

theorem kept_takeStartRequest (terminal : Nat) (hok : ok terminal) (h : QueueKept ok Q s) :
    QueueKept ok Q (takeStartRequest terminal s) := by
  have hbegun : QueueKept ok Q (beginStart terminal s.now s) :=
    ⟨h.1, h.2.1, fun p hp => by obtain rfl := Option.some.inj hp; exact hok⟩
  rcases takeStartRequest_cases terminal s with heq | ⟨code, heq⟩
  · exact heq ▸ hbegun
  · exact heq ▸ K.kept_offerAnswer .start terminal s.now code hok h

omit K in
theorem kept_comeIntoForce (f : InForce) (h : QueueKept ok Q s) : QueueKept ok Q (comeIntoForce f s) :=
  ⟨h.1, keepWindows_addressed h.2.1, h.2.2⟩

theorem kept_configComplete (n : Nat) (pass : Bool) (h : QueueKept ok Q s) :
    QueueKept ok Q (configComplete n pass s) := by
  have hcarried : ∀ {t : State} w, QueueKept ok Q t → QueueKept ok Q (carryOutStart w t) := fun w h => by
    unfold carryOutStart
    split
    · have hforce := kept_comeIntoForce { image := w.image, sequence := w.sequence } h
      exact K.kept_answerStart _ (kept_congr hforce (by simp) (by simp) (by simp))
    · exact h
  unfold configComplete
  split
  · exact h
  · split
    · exact hcarried _ (kept_congr h rfl rfl rfl)
    · dsimp only
      split
      · exact K.kept_answerStart _ (kept_congr h rfl rfl rfl)
      · exact kept_congr h rfl rfl rfl

/-! The completions of the programmer. -/

theorem kept_recordPass (a : Area) (x : SlotImage) (b n : Nat) (h : QueueKept ok Q s) :
    QueueKept ok Q (recordPass a x b n s) := by
  cases a with
  | mirror => exact kept_congr h (by simp [recordPass]) (by simp [recordPass]) (by simp [recordPass])
  | own =>
    unfold recordPass ownRecordPass
    dsimp only
    split
    · refine kept_of_link h (K.offerResult ?_) (by simp) (by simp)
      simpa using h.1
    · exact kept_congr h (by simp) (by simp) (by simp)

theorem kept_programComplete (pass : Bool) (h : QueueKept ok Q s) : QueueKept ok Q (programComplete pass s) := by
  have hidle : QueueKept ok Q (setProgrammer none s) := kept_congr h rfl rfl rfl
  have hpass : ∀ {t : State} a x b n c, QueueKept ok Q t → QueueKept ok Q (recordPass a x b n (writeSlot b n c t)) :=
    fun a x b n c h => K.kept_recordPass a x b n (kept_congr h rfl rfl rfl)
  unfold programComplete
  dsimp only
  split
  · unfold headComplete
    split
    · exact hidle
    · split
      · exact kept_congr (hpass _ _ _ _ _ hidle) rfl rfl rfl
      · exact kept_congr hidle (by simp [apply_ite State.link]) (by simp [apply_ite State.readout])
          (by simp [apply_ite State.ctrl])
  · exact kept_congr hidle (by simp) (by simp) (by simp)
  · exact kept_congr hidle (by simp) (by simp) (by simp)
  · unfold recordComplete
    split
    · exact hidle
    · split
      · split
        · exact hidle
        · exact kept_congr (hpass _ _ _ _ _ hidle) rfl rfl rfl
      · exact kept_congr hidle (by simp) (by simp) (by simp)
  · exact kept_congr hidle (by simp) (by simp) (by simp)
  · exact kept_congr hidle (by simp) (by simp) (by simp)
  · exact K.kept_configComplete _ pass hidle
  · exact h
  · exact h
  · exact h

theorem kept_eraseComplete (pass : Bool) (h : QueueKept ok Q s) : QueueKept ok Q (eraseComplete pass s) := by
  have hidle : QueueKept ok Q (setProgrammer none s) := kept_congr h rfl rfl rfl
  unfold eraseComplete
  split
  · refine kept_congr (s := configEraseComplete pass (setProgrammer none s)) ?_ (by simp) (by simp) (by simp)
    unfold configEraseComplete
    split
    · exact kept_congr hidle rfl rfl rfl
    · exact K.kept_answerStart _ (kept_congr hidle rfl rfl rfl)
  · exact kept_congr hidle (by simp) (by simp) (by simp)
  · exact h

omit K in
theorem kept_scanEnds (es hs : List Nat) (h : QueueKept ok Q s) : QueueKept ok Q (scanEnds es hs s) := by
  have hover : ∀ {t : State}, QueueKept ok Q t → QueueKept ok Q (handOverController t) := fun {t} h => by
    refine ⟨by simpa using h.1, ?_, by simpa using h.2.2⟩
    unfold handOverController
    dsimp only
    split
    · simpa using h.2.1
    · split
      · exact keepWindows_addressed h.2.1
      · simpa using h.2.1
  unfold scanEnds
  split
  · exact hover (kept_congr h (by simp) (by simp) (by simp))
  · exact h

/-- Such an invariant is kept by every command but the reset. -/
theorem kept_after {c : Instr} (hterminal : ∀ n, isTerminal n = true → ok n)
    (hreset : ∀ straps fire feed clean trip, c ≠ .powerOnReset straps fire feed clean trip) (h : QueueKept ok Q s) :
    QueueKept ok Q (after c s) := by
  have hlink : ∀ (s : State) l, receptionOnly s.link l → QueueKept ok Q s → QueueKept ok Q (s.setLink l) :=
    fun s l hl h => kept_of_link h (K.congr h.1 hl.1 hl.2.1 hl.2.2.1) rfl rfl
  have hok : ∀ {s : State} {k sender target payload}, k.frameClass = .request →
      s.receives k sender target payload → ok sender.toNat := fun hk hr => hterminal _ (receives_terminal hk hr)
  cases c with
  | powerOnReset straps fire feed clean trip => exact absurd rfl (hreset straps fire feed clean trip)
  | minuteClose =>
    rw [Proofs.after, minuteEnds]
    split
    · exact h
    · split
      · exact h
      · exact K.kept_closeMinute _ (K.kept_elapse _ h)
  | untimedMinuteClose =>
    rw [Proofs.after, untimedEnds]
    split
    · rename_i u _
      exact kept_congr (K.kept_elapse (60000000 - u) h) (by simp) (by simp) (by simp)
    · exact h
  | mark sender target payload => exact receiveKind_keeps hlink (fun _ h => K.kept_takeMark _ h) h
  | load sender target payload =>
    exact receiveKind_keeps hlink (fun _ h => kept_congr h (by simp) (by simp) (by simp)) h
  | result sender target payload =>
    exact receiveKind_keeps hlink (fun _ h => kept_congr h (by simp) (by simp) (by simp)) h
  | frameBroken cause =>
    refine kept_of_link h ?_ (by simp [Proofs.after]) (by simp [Proofs.after])
    rw [Proofs.after, breakFrame]
    split
    · exact h.1
    · exact h.1
    · exact K.congr h.1 rfl rfl rfl
  | frameCheckFail characters =>
    rw [Proofs.after]
    split
    · exact h
    · rcases wholeFrame_cases countReceiveError s with ⟨l, heq, hl⟩ | ⟨heq, _⟩
      · exact heq ▸ hlink s l hl h
      · exact heq ▸ kept_of_link h (K.congr h.1 rfl rfl rfl) rfl rfl
  | addressClash kind target payload => exact receiveFrame_keeps hlink (fun _ _ h => h) h
  | trafficForAnotherNode kind sender target payload =>
    rw [Proofs.after]
    split
    · exact receiveFrame_keeps hlink (fun _ _ h => h) h
    · exact h
  | lineIdle =>
    refine kept_of_link h ?_ (by simp [Proofs.after]) (by simp [Proofs.after])
    rw [Proofs.after, lineFallsIdle]
    split
    · exact h.1
    · exact K.congr h.1 rfl rfl rfl
  | statusReq sender target payload =>
    exact receiveRequest_keeps hlink (fun _ hr h => K.kept_offerAnswer _ _ _ _ (hok rfl hr) h)
      (fun hr h => K.kept_takeStatus _ _ (hok rfl hr) h) h
  | window sender target payload =>
    exact receiveRequest_keeps hlink (fun _ hr h => K.kept_offerAnswer _ _ _ _ (hok rfl hr) h)
      (fun hr h => K.kept_offerAnswer _ _ _ _ (hok rfl hr) (kept_takeWindow _ _ h)) h
  | read sender target payload =>
    exact receiveRequest_keeps hlink (fun _ hr h => K.kept_offerAnswer _ _ _ _ (hok rfl hr) h)
      (fun hr h => K.kept_takeRead _ _ (hok rfl hr) h) h
  | time sender target payload =>
    exact receiveRequest_keeps hlink (fun _ hr h => K.kept_offerAnswer _ _ _ _ (hok rfl hr) h)
      (fun hr h => K.kept_offerAnswer _ _ _ _ (hok rfl hr) (kept_congr h (by simp) (by simp) (by simp))) h
  | release sender target payload =>
    exact receiveRequest_keeps hlink (fun _ hr h => K.kept_offerAnswer _ _ _ _ (hok rfl hr) h)
      (fun hr h => K.kept_offerAnswer _ _ _ _ (hok rfl hr) (kept_congr h (by simp) (by simp) (by simp))) h
  | configure sender target payload =>
    exact receiveRequest_keeps hlink (fun _ hr h => K.kept_offerAnswer _ _ _ _ (hok rfl hr) h)
      (fun hr h => K.kept_offerAnswer _ _ _ _ (hok rfl hr) (kept_congr h (by simp) (by simp) (by simp))) h
  | start sender target payload =>
    exact receiveRequest_keeps hlink (fun _ hr h => K.kept_offerAnswer _ _ _ _ (hok rfl hr) h)
      (fun hr h => K.kept_takeStartRequest _ (hok rfl hr) h) h
  | restart sender target payload =>
    exact receiveRequest_keeps hlink (fun _ hr h => K.kept_offerAnswer _ _ _ _ (hok rfl hr) h)
      (fun hr h => K.kept_offerAnswer _ _ _ _ (hok rfl hr) (kept_takeRestart _ h)) h
  | transmitAttemptStart => exact kept_of_link h (K.beginAttempt h.1) (by simp [Proofs.after]) (by simp [Proofs.after])
  | arbitrationLost => exact kept_of_link h (K.loseArbitration h.1) (by simp [Proofs.after]) (by simp [Proofs.after])
  | transmitError => exact kept_of_link h (K.failAttempt h.1) (by simp [Proofs.after]) (by simp [Proofs.after])
  | transmitComplete => exact kept_of_link h (K.completeAttempt h.1) (by simp [Proofs.after]) (by simp [Proofs.after])
  | entryExpired => exact kept_of_link h (K.expireEntry h.1) (by simp [Proofs.after]) (by simp [Proofs.after])
  | loadEntryAgeOut n =>
    rw [Proofs.after, ageOut]
    split
    · split
      · exact h
      · exact kept_congr (K.kept_elapse _ h) rfl rfl rfl
    · exact h
  | slotProgramComplete pass => exact K.kept_programComplete pass h
  | blockEraseComplete pass => exact K.kept_eraseComplete pass h
  | storeReadServed => exact K.kept_serveWaiting h
  | scanComplete es hs => exact kept_scanEnds es hs h
  | _ =>
    refine kept_congr h ?_ ?_ ?_ <;>
      simp [Proofs.after, apply_ite State.link, apply_ite State.readout, apply_ite State.ctrl]

end LinkInvariant

end Sys2Proof.Proofs

/-! The invariants of the transmit queue (R88, R92 to R96), and its bound with those of the record queues. -/

namespace Sys2Proof.Proofs

open Sys2Proof.Machine Sys2Proof.Laws

/-- Such an invariant, which an empty queue has too, is kept by every step. -/
theorem LinkInvariant.step_keeps {ok : Nat → Prop} {Q : Link → Prop} (K : LinkInvariant ok Q)
    (hterminal : ∀ n, isTerminal n = true → ok n) (hreset : Q {}) :
    ∀ s t, QueueKept ok Q s → step s = .next t → QueueKept ok Q t := by
  refine Proofs.step_keeps (fun _ _ h => h) (fun s h => K.kept_elapse _ h) fun c s h => ?_
  by_cases hc : ∃ straps fire feed clean trip, c = .powerOnReset straps fire feed clean trip
  · obtain ⟨straps, fire, feed, clean, trip, rfl⟩ := hc
    exact ⟨hreset, fun _ hr => absurd hr List.not_mem_nil, fun _ hp => absurd hp.symm (Option.some_ne_none _)⟩
  · exact K.kept_after hterminal (fun straps fire feed clean trip hc' => hc ⟨straps, fire, feed, clean, trip, hc'⟩) h

/-- An invariant of the transmit queue for which the terminals replied to do not matter. -/
theorem LinkInvariant.link_step {Q : Link → Prop} (K : LinkInvariant (fun _ => True) Q) (hreset : Q {}) :
    ∀ s t, Q s.link → step s = .next t → Q t.link := fun s t h hstep =>
  (K.step_keeps (fun _ _ => trivial) hreset s t ⟨h, fun _ _ => trivial, fun _ _ => trivial⟩ hstep).1

/-! The entries of an attempt that ends. -/

theorem endAttempt_mem {kept : Option TxEntry} {l : Link} {x : TxEntry} :
    x ∈ (endAttempt kept l).queue ↔ (x ∈ l.queue ∧ x.sending = false) ∨
      ((∃ e ∈ l.queue, e.sending = true) ∧ kept = some x) := by
  simp only [endAttempt, List.mem_filterMap]
  constructor
  · rintro ⟨a, ha, hx⟩
    split at hx
    · exact .inr ⟨⟨a, ha, ‹_›⟩, hx⟩
    · obtain rfl := Option.some.inj hx
      rename_i hs
      exact .inl ⟨ha, Bool.eq_false_iff.mpr hs⟩
  · rintro (⟨hx, hs⟩ | ⟨⟨e, he, hs⟩, hx⟩)
    · exact ⟨x, hx, by simp [hs]⟩
    · exact ⟨e, he, by simp [hs, hx]⟩

theorem endAttempt_none (l : Link) : (endAttempt none l).queue = l.queue.filter (fun e => !e.sending) := by
  unfold endAttempt
  dsimp only
  induction l.queue with
  | nil => rfl
  | cons x xs ih => cases hs : x.sending <;> simp [hs, ih]

theorem sendingEntry_mem {l : Link} {e : TxEntry} (h : l.sendingEntry = some e) : e ∈ l.queue ∧ e.sending = true :=
  ⟨List.mem_of_find?_eq_some h, by simpa using List.find?_some h⟩

/-! No more than eight entries (R95). -/

theorem queueBounded_invariant : LinkInvariant (fun _ => True) (fun l => l.queue.length ≤ 8) where
  sub h hsub _ _ := hsub.length_le.trans h
  joins h hsub hlen _ _ := by
    have := hsub.length_le
    simp
    omega
  elapses h hqueue _ _ := by
    rw [hqueue]
    exact (List.length_filter_le ..).trans h
  begins h _ := by simpa [updateAt] using h
  ends h _ _ _ := (List.length_filterMap_le ..).trans h

/-- Settles O32: the transmit queue by the invariants of the link, the record queues by those of the store. -/
theorem queuesNeverHoldMoreThanEight : Obligations.QueuesNeverHoldMoreThanEight := by
  intro s t hs hstep
  obtain ⟨hlink, hrecords⟩ := hs
  exact ⟨queueBounded_invariant.link_step (Nat.zero_le _) s t hlink hstep, recordQueuesBounded_step s t hrecords hstep⟩

/-! No entry overdue (R96). -/

theorem notOverdue_invariant : LinkInvariant (fun _ => True)
    (fun l => ∀ e ∈ l.queue, e.sending = false → l.deadlineTimer ≤ e.deadline) where
  sub h hsub _ htimer x hx hw := htimer ▸ h x (hsub.subset hx) hw
  joins h hsub _ hfresh _ x hx hw := by
    rcases List.mem_append.mp hx with hx | hx
    · exact h x (hsub.subset hx) hw
    · rw [List.mem_singleton.mp hx]
      exact hfresh.due
  elapses _ hqueue _ _ x hx hw := by
    rw [hqueue, List.mem_filter, hw] at hx
    simpa using hx.2
  begins {l n} h _ x hx hw := by
    obtain ⟨i, hi, rfl⟩ := List.mem_iff_getElem.mp hx
    simp only [updateAt, List.getElem_modify] at hw ⊢
    split at hw
    · cases hw
    · rename_i hne
      rw [if_neg hne]
      exact h _ (List.getElem_mem _) hw
  ends {l e kept} h _ hsending hkept x hx hw := by
    rcases endAttempt_mem.mp hx with ⟨hx, hs⟩ | ⟨_, rfl⟩
    · exact h x hx hs
    · rcases hkept with hnone | ⟨errors, hx, hdue, _⟩
      · cases hnone
      · obtain rfl := Option.some.inj hx
        exact hdue.le

/-! Broadcasts and replies to the terminals (R86). -/

theorem regular_of_eq {e e' : TxEntry} (hk : e'.kind = e.kind) (ht : e'.terminal = e.terminal) (h : e.regular) :
    e'.regular := by
  rwa [TxEntry.regular, hk, ht]

theorem regular_invariant : LinkInvariant (fun n => isTerminal n = true) (fun l => ∀ e ∈ l.queue, e.regular) where
  sub h hsub _ _ x hx := h x (hsub.subset hx)
  joins h hsub _ hfresh _ x hx := by
    rcases List.mem_append.mp hx with hx | hx
    · exact h x (hsub.subset hx)
    · rw [List.mem_singleton.mp hx]
      rcases hfresh.kind with hk | ⟨hk, n, hn, hterminal⟩
      · exact .inl hk
      · exact .inr ⟨hk, n, hn, by simpa [isTerminal] using hterminal⟩
  elapses h hqueue _ _ x hx := by
    rw [hqueue] at hx
    exact h x (List.mem_of_mem_filter hx)
  begins {l n} h _ x hx := by
    obtain ⟨i, hi, rfl⟩ := List.mem_iff_getElem.mp hx
    simp only [updateAt, List.getElem_modify]
    split
    · exact regular_of_eq (e := l.queue[i]'(by simpa [updateAt] using hi)) rfl rfl (h _ (List.getElem_mem _))
    · exact h _ (List.getElem_mem _)
  ends {l e kept} h _ hsending hkept x hx := by
    rcases endAttempt_mem.mp hx with ⟨hx, _⟩ | ⟨_, rfl⟩
    · exact h x hx
    · rcases hkept with hnone | ⟨errors, hx, _, _⟩
      · cases hnone
      · obtain rfl := Option.some.inj hx
        exact regular_of_eq rfl rfl (h e (sendingEntry_mem hsending).1)

/-! The order of the queue (R88, R92 to R94). -/

/-- A test picks entries that one entry of its kind would replace: the tests of R93 and R94. -/
def PicksReplaced (p : TxEntry → Bool) : Prop :=
  (∀ e e' : TxEntry, e'.kind = e.kind → e'.terminal = e.terminal → p e' = p e) ∧
    ∀ new old : TxEntry, p new = true → p old = true → new.replaces old = true

theorem picksReplaced_mark : PicksReplaced (fun e => e.kind == .mark) := by
  refine ⟨fun e e' hk _ => by simp only [hk], fun new old hnew hold => ?_⟩
  simp_all [TxEntry.replaces, FrameKind.frameClass]

theorem picksReplaced_load : PicksReplaced (fun e => e.kind == .load) := by
  refine ⟨fun e e' hk _ => by simp only [hk], fun new old hnew hold => ?_⟩
  simp_all [TxEntry.replaces, FrameKind.frameClass]

theorem picksReplaced_reply (n : Nat) :
    PicksReplaced (fun e => e.kind.frameClass == .reply && e.terminal == some n) := by
  refine ⟨fun e e' hk ht => by simp only [hk, ht], fun new old hnew hold => ?_⟩
  simp_all [TxEntry.replaces]

theorem countP_modify_le {q : TxEntry → Bool} {f : TxEntry → TxEntry} (hf : ∀ x, q (f x) = true → q x = true)
    (l : List TxEntry) (n : Nat) : (l.modify n f).countP q ≤ l.countP q := by
  induction l generalizing n with
  | nil => simp
  | cons x xs ih =>
    cases n with
    | zero =>
      have := hf x
      simp only [List.modify_zero_cons, List.countP_cons]
      split <;> split <;> simp_all
    | succ n =>
      have := ih n
      simp only [List.modify_succ_cons, List.countP_cons]
      omega

theorem countP_modify_le_succ (q : TxEntry → Bool) (f : TxEntry → TxEntry) (l : List TxEntry) (n : Nat) :
    (l.modify n f).countP q ≤ l.countP q + 1 := by
  induction l generalizing n with
  | nil => simp
  | cons x xs ih =>
    cases n with
    | zero =>
      simp only [List.modify_zero_cons, List.countP_cons]
      split <;> omega
    | succ n =>
      have := ih n
      simp only [List.modify_succ_cons, List.countP_cons]
      omega

/-- What a test picks of the queue after an attempt: of what waited, and of what takes the place of what was sent. -/
theorem endAttempt_countP (kept : Option TxEntry) (l : Link) (p : TxEntry → Bool) :
    (endAttempt kept l).queue.countP p =
      l.queue.countP (fun x => !x.sending && p x) + if kept.any p then l.queue.countP (fun x => x.sending) else 0 := by
  unfold endAttempt
  dsimp only
  induction l.queue with
  | nil => simp
  | cons x xs ih =>
    cases hx : x.sending <;> cases kept <;> simp_all [List.countP_cons] <;> grind

/-- The entries a test picks stay one at most, and so do those in transmission; the offerings stay in order (R88, R92). -/
structure Ordered (l : Link) : Prop where
  sole : l.queue.countP (fun e => e.sending) ≤ 1
  idle : l.attempt = none → l.queue.countP (fun e => e.sending) = 0
  mark : l.queue.countP (fun e => !e.sending && e.kind == .mark) ≤ 1
  load : l.queue.countP (fun e => !e.sending && e.kind == .load) ≤ 1
  reply : ∀ n, l.queue.countP (fun e => !e.sending && (e.kind.frameClass == .reply && e.terminal == some n)) ≤ 1
  order : (l.queue.map (fun e => e.offered)).Pairwise (· ≤ ·)
  past : ∀ n ∈ l.queue.map (fun e => e.offered), n ≤ l.deadlineTimer

/-- Of the entries that a test of R93 or R94 picks one joins only when none waits. -/
theorem countP_joined_le {p : TxEntry → Bool} (hp : PicksReplaced p) {q kept : List TxEntry} {e : TxEntry}
    (hsub : kept.Sublist q) (hwaits : e.sending = false)
    (hnot : ∀ o ∈ kept, o.sending = true ∨ e.replaces o = false)
    (h : q.countP (fun x => !x.sending && p x) ≤ 1) : (kept ++ [e]).countP (fun x => !x.sending && p x) ≤ 1 := by
  rw [List.countP_append, List.countP_singleton, hwaits]
  cases hpe : p e with
  | false => simpa using (hsub.countP_le).trans h
  | true =>
    have hnone : kept.countP (fun x => !x.sending && p x) = 0 := by
      refine List.countP_eq_zero.mpr fun o ho hpo => ?_
      obtain ⟨hs, hpo⟩ := by simpa using hpo
      rcases hnot o ho with hsending | hreplaces
      · rw [hs] at hsending
        cases hsending
      · rw [hp.2 e o hpe hpo] at hreplaces
        cases hreplaces
    rw [hnone]
    rfl

/-- Of the entries that a test of R93 or R94 picks one waits again only when no newer one does. -/
theorem countP_settled_le {p : TxEntry → Bool} (hp : PicksReplaced p) {l : Link} {e : TxEntry} {kept : Option TxEntry}
    (hsole : l.queue.countP (fun x => x.sending) ≤ 1) (hkept : Settles l e kept)
    (h : l.queue.countP (fun x => !x.sending && p x) ≤ 1) :
    (endAttempt kept l).queue.countP (fun x => !x.sending && p x) ≤ 1 := by
  rw [endAttempt_countP]
  simp only [← Bool.and_assoc, Bool.and_self]
  rcases hkept with rfl | ⟨errors, rfl, _, hnew⟩
  · simpa using h
  · cases hpe : p e with
    | false => simpa [hp.1 e _ (show TxEntry.kind { e with sending := false, errors := errors } = e.kind from rfl) rfl, hpe]
        using h
    | true =>
      have hnone : l.queue.countP (fun x => !x.sending && p x) = 0 := by
        refine List.countP_eq_zero.mpr fun o ho hpo => ?_
        obtain ⟨hs, hpo⟩ := by simpa using hpo
        have hold : superseded l e = true :=
          List.any_eq_true.mpr ⟨o, ho, by simp [hs, hp.2 o e hpo hpe]⟩
        rw [hnew] at hold
        cases hold
      rw [hnone]
      split <;> omega

theorem endAttempt_offered {l : Link} {e : TxEntry} (hall : ∀ x ∈ l.queue, x.sending = true → x.offered = e.offered) :
    (endAttempt (some e) l).queue.map (fun x => x.offered) = l.queue.map (fun x => x.offered) := by
  unfold endAttempt
  dsimp only
  generalize l.queue = q at hall
  induction q with
  | nil => rfl
  | cons x xs ih =>
    have hxs := ih fun y hy => hall y (List.mem_cons_of_mem _ hy)
    have hx := hall x (List.mem_cons_self ..)
    cases hs : x.sending <;> simp_all

theorem sending_unique {l : Link} {e : TxEntry} (hsole : l.queue.countP (fun x => x.sending) ≤ 1)
    (he : l.sendingEntry = some e) : ∀ x ∈ l.queue, x.sending = true → x = e := by
  intro x hx hs
  obtain ⟨hmem, hsending⟩ := sendingEntry_mem he
  rw [List.countP_eq_length_filter] at hsole
  have hx' : x ∈ l.queue.filter (fun x => x.sending) := List.mem_filter.mpr ⟨hx, hs⟩
  have he' : e ∈ l.queue.filter (fun x => x.sending) := List.mem_filter.mpr ⟨hmem, hsending⟩
  cases hq : l.queue.filter (fun x => x.sending) with
  | nil => rw [hq] at hx'; cases hx'
  | cons y ys =>
    rw [hq] at hx' he' hsole
    obtain rfl : ys = [] := List.length_eq_zero_iff.mp (by simpa using hsole)
    rw [List.mem_singleton.mp hx', List.mem_singleton.mp he']

theorem updateAt_offered (q : List TxEntry) (n : Nat) :
    (updateAt q n (fun e => { e with sending := true })).map (fun e => e.offered) = q.map (fun e => e.offered) := by
  refine List.ext_getElem (by simp [updateAt]) fun i _ _ => ?_
  simp only [updateAt, List.getElem_map, List.getElem_modify]
  split <;> rfl

theorem ordered_invariant : LinkInvariant (fun _ => True) Ordered where
  sub {l l'} h hsub hattempt htimer := by
    have hcount := fun p : TxEntry → Bool => hsub.countP_le (p := p)
    exact {
      sole := (hcount _).trans h.sole
      idle := fun hnone => Nat.le_zero.mp ((hcount _).trans (h.idle (hattempt ▸ hnone)).le)
      mark := (hcount _).trans h.mark
      load := (hcount _).trans h.load
      reply := fun n => (hcount _).trans (h.reply n)
      order := h.order.sublist (hsub.map _)
      past := fun n hn => htimer ▸ h.past n ((hsub.map _).subset hn) }
  joins {l e kept} h hsub _ hfresh hnot := by
    have hsending : (kept ++ [e]).countP (fun x => x.sending) ≤ l.queue.countP (fun x => x.sending) := by
      rw [List.countP_append, List.countP_singleton, hfresh.waits]
      exact hsub.countP_le
    exact {
      sole := hsending.trans h.sole
      idle := fun hnone => Nat.le_zero.mp (hsending.trans (h.idle hnone).le)
      mark := countP_joined_le picksReplaced_mark hsub hfresh.waits hnot h.mark
      load := countP_joined_le picksReplaced_load hsub hfresh.waits hnot h.load
      reply := fun n => countP_joined_le (picksReplaced_reply n) hsub hfresh.waits hnot (h.reply n)
      order := by
        rw [List.map_append, List.pairwise_append]
        refine ⟨h.order.sublist (hsub.map _), List.pairwise_singleton .., fun a ha b hb => ?_⟩
        obtain rfl : b = e.offered := by simpa using hb
        exact hfresh.now ▸ h.past a ((hsub.map _).subset ha)
      past := fun n hn => by
        rcases List.mem_append.mp (List.map_append .. ▸ hn) with hn | hn
        · exact h.past n ((hsub.map _).subset hn)
        · obtain rfl : n = e.offered := by simpa using hn
          exact hfresh.now.le }
  elapses {l l'} h hqueue hattempt htimer := by
    have hsub : l'.queue.Sublist l.queue := hqueue ▸ List.filter_sublist
    have hcount := fun p : TxEntry → Bool => hsub.countP_le (p := p)
    exact {
      sole := (hcount _).trans h.sole
      idle := fun hnone => Nat.le_zero.mp ((hcount _).trans (h.idle (hattempt hnone)).le)
      mark := (hcount _).trans h.mark
      load := (hcount _).trans h.load
      reply := fun n => (hcount _).trans (h.reply n)
      order := h.order.sublist (hsub.map _)
      past := fun n hn => (h.past n ((hsub.map _).subset hn)).trans htimer }
  begins {l n} h hnone := by
    have hwaits := fun p : TxEntry → Bool => countP_modify_le (q := fun x => !x.sending && p x)
      (f := fun e => { e with sending := true }) (fun x hx => by simp at hx) l.queue n
    exact {
      sole := (countP_modify_le_succ ..).trans (by rw [h.idle hnone])
      idle := nofun
      mark := (hwaits _).trans h.mark
      load := (hwaits _).trans h.load
      reply := fun n => (hwaits _).trans (h.reply n)
      order := by rw [updateAt_offered]; exact h.order
      past := by rw [updateAt_offered]; exact h.past }
  ends {l e kept} h _ hsending hkept := by
    have hidle : (endAttempt kept l).queue.countP (fun x => x.sending) = 0 := by
      rw [endAttempt_countP]
      rcases hkept with rfl | ⟨errors, rfl, _, _⟩ <;> simp
    have hoffered : ((endAttempt kept l).queue.map (fun x => x.offered)).Sublist (l.queue.map (fun x => x.offered)) := by
      rcases hkept with rfl | ⟨errors, rfl, _, _⟩
      · rw [endAttempt_none]
        exact List.filter_sublist.map _
      · rw [endAttempt_offered fun x hx hs => by rw [sending_unique h.sole hsending x hx hs]]
    exact {
      sole := hidle.le.trans (Nat.zero_le _)
      idle := fun _ => hidle
      mark := countP_settled_le picksReplaced_mark h.sole hkept h.mark
      load := countP_settled_le picksReplaced_load h.sole hkept h.load
      reply := fun n => countP_settled_le (picksReplaced_reply n) h.sole hkept (h.reply n)
      order := h.order.sublist hoffered
      past := fun n hn => h.past n (hoffered.subset hn) }

theorem ordered_iff (s : State) : Ordered s.link ↔ s.oneSending ∧ s.oneWaiting ∧ s.offeringOrder := by
  simp only [State.oneSending, State.oneWaiting, State.offeringOrder, atMostOne, ← List.countP_eq_length_filter]
  constructor
  · intro h
    refine ⟨⟨h.sole, fun hnone => ?_⟩, ⟨h.mark, h.load, h.reply⟩, List.pairwise_map.mp h.order, fun e he =>
      h.past _ (List.mem_map_of_mem he)⟩
    rw [← List.length_eq_zero_iff, ← List.countP_eq_length_filter]
    exact h.idle hnone
  · rintro ⟨⟨hsole, hidle⟩, ⟨hmark, hload, hreply⟩, horder, hpast⟩
    refine ⟨hsole, fun hnone => ?_, hmark, hload, hreply, List.pairwise_map.mpr horder, fun n hn => ?_⟩
    · rw [List.countP_eq_length_filter, hidle hnone, List.length_nil]
    · obtain ⟨e, he, rfl⟩ := List.mem_map.mp hn
      exact hpast e he

/-- Settles O31, by the three invariants of the link: the order, the addresses and the deadlines. -/
theorem transmitQueueStaysInOrder : Obligations.TransmitQueueStaysInOrder := by
  refine ⟨fun s t hsending hwaiting horder hstep => ?_, ?_, ?_⟩
  · refine (ordered_iff t).mp (ordered_invariant.link_step ?_ s t ((ordered_iff s).mpr ⟨hsending, hwaiting, horder⟩) hstep)
    exact ⟨Nat.zero_le _, fun _ => rfl, Nat.zero_le _, Nat.zero_le _, fun _ => Nat.zero_le _, List.Pairwise.nil,
      fun _ hn => nomatch hn⟩
  · exact regular_invariant.step_keeps (fun _ h => h) fun _ he => nomatch he
  · exact notOverdue_invariant.link_step fun _ he => nomatch he

end Sys2Proof.Proofs

/-! The fixed tables of the station: the channels, the load share table, the windows and the deferred answers, with those
of the store, the partners and the summary. -/

namespace Sys2Proof.Proofs

open Sys2Proof.Machine Sys2Proof.Laws

/-- The 16 channel entries, the eight load share entries, the four windows and the four deferred answers. -/
def unitTablesSized (s : State) : Prop :=
  s.intake.channels.length = 16 ∧ s.share.entries.length = 8 ∧ s.readout.windows.length = 4 ∧
    s.readout.deferred.length = 4

section UnitTables

variable {s t : State}

theorem unitTablesSized_congr (h : unitTablesSized s) (hchannels : t.intake.channels.length = s.intake.channels.length)
    (hentries : t.share.entries.length = s.share.entries.length)
    (hwindows : t.readout.windows.length = s.readout.windows.length)
    (hdeferred : t.readout.deferred.length = s.readout.deferred.length) : unitTablesSized t := by
  rwa [unitTablesSized, hchannels, hentries, hwindows, hdeferred]

/-! The load share table. -/

@[simp] theorem setEntry_length (u : ShareUnit) (n : Nat) (e : Option ShareEntry) :
    (u.setEntry n e).entries.length = u.entries.length := by simp [ShareUnit.setEntry]

@[simp] theorem advance_length (u : ShareUnit) (dt : Nat) : (u.advance dt).entries.length = u.entries.length := by
  simp [ShareUnit.advance]

@[simp] theorem beginFireSeen_entries (s : State) : (beginFireSeen s).share.entries = s.share.entries := rfl

@[simp] theorem shareMinuteClose_entries_length (r : LoadReport) (s : State) :
    (shareMinuteClose r s).share.entries.length = s.share.entries.length := by
  unfold shareMinuteClose
  split
  · rfl
  · dsimp only
    split <;> simp

@[simp] theorem takeLoad_entries_length (sender : Nat) (f : LoadFields) (s : State) :
    (takeLoad sender f s).share.entries.length = s.share.entries.length := by
  unfold takeLoad
  split
  · rfl
  · split <;> simp

@[simp] theorem takeEdge_entries (line : InputLine) (active : Bool) (s : State) :
    (takeEdge line active s).share.entries = s.share.entries := by
  unfold takeEdge
  dsimp only
  (repeat' split) <;> simp

@[simp] theorem closeMeasurement_entries_length (m : MinuteId) (s : State) :
    (closeMeasurement m s).share.entries.length = s.share.entries.length := by
  unfold closeMeasurement
  split
  · rfl
  · dsimp only
    split <;> simp

@[simp] theorem closeMinute_entries_length (early : Bool) (s : State) :
    (closeMinute early s).share.entries.length = s.share.entries.length := by
  unfold closeMinute
  split
  · rfl
  · dsimp only
    (repeat' split) <;> simp

@[simp] theorem setTime_entries (now : StationTime) (last : Option LastClosed) (s : State) :
    (setTime now last s).share.entries = s.share.entries := by simp [setTime]

@[simp] theorem acquireTime_entries (now : StationTime) (last : Option LastClosed) (s : State) :
    (acquireTime now last s).share.entries = s.share.entries := by simp [acquireTime]

@[simp] theorem comeIntoForce_entries_length (f : InForce) (s : State) :
    (comeIntoForce f s).share.entries.length = s.share.entries.length := by simp [comeIntoForce, pruneEntries]

/-! The channels. -/

@[simp] theorem checkReadingFrame_channels_length (frame : List Byte) (s : State) :
    (checkReadingFrame frame s).intake.channels.length = s.intake.channels.length := by
  unfold checkReadingFrame
  (repeat' split) <;> simp [takeReading, countFrameError, setPartial, updateAt]

@[simp] theorem receiveAnalyserByte_channels_length (b : Byte) (s : State) :
    (receiveAnalyserByte s b).intake.channels.length = s.intake.channels.length := by
  unfold receiveAnalyserByte
  split
  · split <;> rfl
  · dsimp only
    split
    · rfl
    · simp

@[simp] theorem foldl_bytes_channels_length (bytes : List Byte) (s : State) :
    (bytes.foldl receiveAnalyserByte s).intake.channels.length = s.intake.channels.length := by
  induction bytes generalizing s with
  | nil => rfl
  | cons b rest ih => simp [ih]

@[simp] theorem closeMinute_channels_length (early : Bool) (s : State) :
    (closeMinute early s).intake.channels.length = s.intake.channels.length := by
  cases htime : s.clock.time with
  | none => simp [closeMinute, htime]
  | some now => simp [closeMinute_channels early htime]

@[simp] theorem setTime_channels_length (now : StationTime) (last : Option LastClosed) (s : State) :
    (setTime now last s).intake.channels.length = s.intake.channels.length := by simp [setTime_channels]

@[simp] theorem acquireTime_channels_length (now : StationTime) (last : Option LastClosed) (s : State) :
    (acquireTime now last s).intake.channels.length = s.intake.channels.length := by simp [acquireTime]

/-! The windows and the deferred answers. -/

@[simp] theorem setWindow_length (r : Readout) (n : Nat) (w : Option Window) :
    (r.setWindow n w).windows.length = r.windows.length ∧ (r.setWindow n w).deferred = r.deferred := by
  simp [Readout.setWindow]

@[simp] theorem keepWindows_length (r : Readout) (keep : Window → Bool) :
    (r.keepWindows keep).windows.length = r.windows.length ∧ (r.keepWindows keep).deferred = r.deferred := by
  refine List.foldlRecOn (motive := fun x : Readout =>
    x.windows.length = r.windows.length ∧ x.deferred = r.deferred) _ _ ⟨rfl, rfl⟩ fun x h n _ => ?_
  split
  · exact h
  · simpa using h

@[simp] theorem updateWindow_length (n : Nat) (w : Window) (r : Readout) :
    (updateWindow n w r).windows.length = r.windows.length ∧ (updateWindow n w r).deferred = r.deferred := by
  unfold updateWindow
  dsimp only
  split <;> simp

@[simp] theorem offerReply_readout (k : FrameKind) (terminal taken : Nat) (payload : List Byte) (s : State) :
    (offerReply k terminal taken payload s).readout = s.readout := by simp

@[simp] theorem setDeferred_length (terminal : Nat) (d : Option Nat) (s : State) :
    (setDeferred terminal d s).readout.windows = s.readout.windows ∧
    (setDeferred terminal d s).readout.deferred.length = s.readout.deferred.length := by simp [setDeferred]

/-! The commands. -/

theorem unitTablesSized_comeIntoForce (f : InForce) (h : unitTablesSized s) : unitTablesSized (comeIntoForce f s) :=
  unitTablesSized_congr h (by simp) (by simp) (by simp [comeIntoForce]) (by simp [comeIntoForce])

theorem unitTablesSized_answerStart (code : AnswerCode) (h : unitTablesSized s) :
    unitTablesSized (answerStart code s) := by
  unfold answerStart
  split
  · exact unitTablesSized_congr h (by simp) (by simp) (by simp) (by simp)
  · exact h

theorem unitTablesSized_carryOutStart (w : ConfigWrite) (h : unitTablesSized s) :
    unitTablesSized (carryOutStart w s) := by
  unfold carryOutStart
  split
  · have hforce := unitTablesSized_comeIntoForce { image := w.image, sequence := w.sequence } h
    exact unitTablesSized_answerStart _ (unitTablesSized_congr hforce (by simp) (by simp) (by simp) (by simp))
  · exact h

theorem unitTablesSized_configComplete (n : Nat) (pass : Bool) (h : unitTablesSized s) :
    unitTablesSized (configComplete n pass s) := by
  have hstore : ∀ c x, unitTablesSized ((writeSlot 0 n c s).setStore x) := fun _ _ => h
  unfold configComplete
  split
  · exact h
  · split
    · exact unitTablesSized_carryOutStart _ (hstore _ _)
    · dsimp only
      split
      · exact unitTablesSized_answerStart _ h
      · exact h

theorem unitTablesSized_programComplete (pass : Bool) (h : unitTablesSized s) :
    unitTablesSized (programComplete pass s) := by
  unfold programComplete
  dsimp only
  split
  · exact unitTablesSized_congr h (by simp) (by simp) (by simp) (by simp)
  · exact unitTablesSized_congr h (by simp) (by simp) (by simp) (by simp)
  · exact unitTablesSized_congr h (by simp) (by simp) (by simp) (by simp)
  · exact unitTablesSized_congr h (by simp) (by simp) (by simp) (by simp)
  · exact unitTablesSized_congr h (by simp) (by simp) (by simp) (by simp)
  · exact unitTablesSized_congr h (by simp) (by simp) (by simp) (by simp)
  · exact unitTablesSized_configComplete _ pass h
  · exact h
  · exact h
  · exact h

theorem unitTablesSized_eraseComplete (pass : Bool) (h : unitTablesSized s) :
    unitTablesSized (eraseComplete pass s) := by
  unfold eraseComplete
  split
  · unfold configEraseComplete
    split
    · exact h
    · exact unitTablesSized_answerStart _ h
  · exact unitTablesSized_congr h (by simp) (by simp) (by simp) (by simp)
  · exact h

theorem unitTablesSized_scanEnds (es hs : List Nat) (h : unitTablesSized s) : unitTablesSized (scanEnds es hs s) := by
  have hover : ∀ {t : State}, unitTablesSized t → unitTablesSized (handOverController t) := fun {t} h => by
    unfold handOverController
    dsimp only
    split
    · exact unitTablesSized_congr h (by simp) (by simp) (by simp) (by simp)
    · split
      · rename_i f _
        have hforce := unitTablesSized_comeIntoForce f (s := t.setCtrl { t.ctrl with edit := scanEdit t }) h
        exact unitTablesSized_congr hforce (by simp) (by simp) (by simp) (by simp)
      · exact unitTablesSized_congr h (by simp) (by simp) (by simp) (by simp)
  unfold scanEnds
  split
  · exact hover (unitTablesSized_congr h (by simp) (by simp) (by simp) (by simp))
  · exact h

theorem unitTablesSized_takeStartRequest (terminal : Nat) (h : unitTablesSized s) :
    unitTablesSized (takeStartRequest terminal s) := by
  have hanswer : ∀ code, unitTablesSized (offerAnswer .start terminal s.now code s) := fun code =>
    unitTablesSized_congr h (by simp) (by simp) (by simp) (by simp)
  have hbegun : unitTablesSized (beginStart terminal s.now s) :=
    unitTablesSized_congr h (by simp) (by simp) (by simp [beginStart]) (by simp [beginStart])
  rcases takeStartRequest_cases terminal s with heq | ⟨code, heq⟩
  · exact heq ▸ hbegun
  · exact heq ▸ hanswer code

theorem unitTablesSized_serveRead (r : WaitingRead) (w : Window) (h : unitTablesSized s) :
    unitTablesSized (serveRead r w s) :=
  unitTablesSized_congr h (by simp [serveRead]) (by simp [serveRead]) (by simp [serveRead]) (by simp [serveRead])

theorem unitTablesSized_takeRead (terminal : Nat) (payload : List Byte) (h : unitTablesSized s) :
    unitTablesSized (takeRead terminal payload s) := by
  unfold takeRead
  split
  · exact unitTablesSized_congr h (by simp) (by simp) (by simp) (by simp)
  · split
    · exact unitTablesSized_congr h (by simp) (by simp) (by simp) (by simp)
    · unfold takeReadOf
      dsimp only
      split
      · exact h
      · exact unitTablesSized_serveRead _ _ h

theorem unitTablesSized_serveWaiting (h : unitTablesSized s) : unitTablesSized (serveWaiting s) := by
  unfold serveWaiting
  split
  · dsimp only
    split
    · exact unitTablesSized_serveRead _ _ h
    · exact unitTablesSized_congr h (by simp) (by simp) (by simp) (by simp)
  · exact h

theorem unitTablesSized_takeMark (i : Id) (h : unitTablesSized s) : unitTablesSized (takeMark i s) := by
  unfold takeMark
  split
  · exact h
  · exact h
  · exact h
  · split
    · exact unitTablesSized_congr h (by simp) (by simp) (by simp) (by simp)
    · exact h
  · unfold decideMark
    (repeat' split) <;> exact unitTablesSized_congr h (by simp [countDisagreement]) (by simp [countDisagreement])
      (by simp [countDisagreement]) (by simp [countDisagreement])

theorem unitTablesSized_takeTime (terminal : Nat) (f : TimeFields) (h : unitTablesSized s) :
    unitTablesSized (takeTime terminal f s).1 := by
  unfold takeTime
  split
  · exact h
  · split <;> exact unitTablesSized_congr h (by simp) (by simp) (by simp) (by simp)

theorem unitTablesSized_takeWindow (terminal : Nat) (payload : List Byte) (h : unitTablesSized s) :
    unitTablesSized (takeWindow terminal payload s).1 := by
  unfold takeWindow
  split
  · exact h
  · split
    · exact unitTablesSized_congr h (by simp) (by simp) (by simp) (by simp)
    · exact h

theorem unitTablesSized_takeRestart (terminal : Nat) (h : unitTablesSized s) :
    unitTablesSized (takeRestart terminal s).1 := by
  have hout : unitTablesSized (carryOutRestart terminal s) :=
    unitTablesSized_congr h (by simp) (by simp) (by simp [carryOutRestart]) (by simp [carryOutRestart])
  unfold takeRestart
  split
  · exact hout
  · exact hout
  · exact h
  · exact h
  · exact h

theorem unitTablesSized_after (c : Instr) (h : unitTablesSized s) : unitTablesSized (after c s) := by
  have hlink : ∀ (s : State) l, receptionOnly s.link l → unitTablesSized s → unitTablesSized (s.setLink l) :=
    fun _ _ _ h => h
  have hanswer : ∀ {s : State} {k n taken code}, unitTablesSized s → unitTablesSized (offerAnswer k n taken code s) :=
    fun h => unitTablesSized_congr h (by simp) (by simp) (by simp) (by simp)
  cases c with
  | powerOnReset straps fire feed clean trip => exact ⟨rfl, rfl, rfl, rfl⟩
  | slotProgramComplete pass => exact unitTablesSized_programComplete pass h
  | blockEraseComplete pass => exact unitTablesSized_eraseComplete pass h
  | scanComplete es hs => exact unitTablesSized_scanEnds es hs h
  | storeReadServed => exact unitTablesSized_serveWaiting h
  | mark sender target payload => exact receiveKind_keeps hlink (fun _ h => unitTablesSized_takeMark _ h) h
  | load sender target payload =>
    exact receiveKind_keeps hlink (fun _ h => unitTablesSized_congr h (by simp) (by simp) (by simp) (by simp)) h
  | window sender target payload =>
    exact receiveRequest_keeps hlink (fun _ _ h => hanswer h) (fun _ h => hanswer (unitTablesSized_takeWindow _ _ h)) h
  | read sender target payload =>
    exact receiveRequest_keeps hlink (fun _ _ h => hanswer h) (fun _ h => unitTablesSized_takeRead _ _ h) h
  | time sender target payload =>
    exact receiveRequest_keeps hlink (fun _ _ h => hanswer h) (fun _ h => hanswer (unitTablesSized_takeTime _ _ h)) h
  | start sender target payload =>
    exact receiveRequest_keeps hlink (fun _ _ h => hanswer h) (fun _ h => unitTablesSized_takeStartRequest _ h) h
  | restart sender target payload =>
    exact receiveRequest_keeps hlink (fun _ _ h => hanswer h) (fun _ h => hanswer (unitTablesSized_takeRestart _ h)) h
  | analyserFrameAbandon =>
    rw [after]
    split <;> exact h
  | inputEdge line active =>
    rw [after]
    split
    · exact h
    · exact unitTablesSized_congr h (by simp) (by simp) (by simp) (by simp)
  | minuteClose =>
    rw [after, minuteEnds]
    (repeat' split) <;> exact unitTablesSized_congr h (by simp) (by simp) (by simp) (by simp)
  | untimedMinuteClose =>
    rw [after, untimedEnds]
    split <;> exact unitTablesSized_congr h (by simp) (by simp) (by simp) (by simp)
  | entryExpired =>
    rw [after, expireEntry]
    split <;> exact unitTablesSized_congr h (by simp) (by simp) (by simp) (by simp)
  | loadEntryAgeOut n =>
    rw [after, ageOut]
    (repeat' split) <;> exact unitTablesSized_congr h (by simp) (by simp) (by simp) (by simp)
  | _ =>
    refine unitTablesSized_congr h ?_ ?_ ?_ ?_ <;>
      simp [after, apply_ite State.intake, apply_ite State.share, apply_ite State.readout]

end UnitTables

/-- Settles O59: the tables of the units one by one, those of the store, the partners and the summary together. -/
theorem tablesKeepTheirSizes : Obligations.TablesKeepTheirSizes := by
  intro s t hs hstep
  obtain ⟨hchannels, hentries, horigins, hblocks, hwindows, hdeferred, hsummary⟩ := hs
  obtain ⟨hchannels', hentries', hwindows', hdeferred'⟩ :=
    step_keeps (P := unitTablesSized) (fun _ _ h => h)
      (fun _ h => unitTablesSized_congr h (by simp) (by simp) (by simp) (by simp))
      (fun c _ h => unitTablesSized_after c h) s t ⟨hchannels, hentries, hwindows, hdeferred⟩ hstep
  obtain ⟨hblocks', horigins', hsummary'⟩ := storeTablesSized_step s t ⟨hblocks, horigins, hsummary⟩ hstep
  exact ⟨hchannels', hentries', horigins', hblocks', hwindows', hdeferred', hsummary'⟩

end Sys2Proof.Proofs

/-! The open interval (R39, R40, R47): it is the running one and lies after the last own interval id. -/

namespace Sys2Proof.Proofs

open Sys2Proof.Machine Sys2Proof.Laws

/-! The calendar. -/

theorem interval_before_next {now : StationTime} (hend : now.minute % 30 = 29) :
    now.interval.before now.nextMinute.interval = true := by
  unfold StationTime.nextMinute
  split
  · have : now.minute / 30 < (now.minute + 1) / 30 := by omega
    simp [Id.before, StationTime.interval, this]
  · by_cases hday : now.day < daysInYear now.year <;> simp [Id.before, StationTime.interval, nextDay, hday]

theorem interval_next_of_inside {now : StationTime} (hrange : now.minute ≤ 1439) (hend : now.minute % 30 ≠ 29) :
    now.nextMinute.interval = now.interval := by
  have hlt : now.minute < 1439 := by omega
  have : (now.minute + 1) / 30 = now.minute / 30 := by omega
  simp [StationTime.nextMinute, hlt, StationTime.interval, this]

theorem nextMinute_range (now : StationTime) : now.nextMinute.minute ≤ 1439 := by
  unfold StationTime.nextMinute
  split
  · exact Nat.succ_le_of_lt ‹_›
  · exact Nat.zero_le _

theorem startTime_range {i : Id} (h : usableMark i = true) : i.nextInterval.startTime.minute ≤ 1439 := by
  simp only [usableMark, realInterval, Bool.and_eq_true, decide_eq_true_eq] at h
  obtain ⟨⟨_, hindex⟩, _⟩ := h
  unfold Id.nextInterval Id.startTime
  split <;> dsimp only <;> omega

theorem advance_minuteId (now : StationTime) (len dt : Nat) : (now.advance len dt).minuteId = now.minuteId := by
  unfold StationTime.advance
  split <;> rfl

/-! What the invariant rests on. -/

section Intervals

variable {s t : State}

theorem intervalsAdvance_congr (h : s.intervalsAdvance)
    (htime : t.clock.time.map StationTime.minuteId = s.clock.time.map StationTime.minuteId)
    (hrecording : t.period.recording = s.period.recording)
    (hopen : t.period.openInterval.map (fun o => o.id) = s.period.openInterval.map (fun o => o.id))
    (hlast : t.period.lastOwn = s.period.lastOwn) (hstate : t.ctrl.state = s.ctrl.state) : t.intervalsAdvance := by
  obtain ⟨hrange, hworks, hopened⟩ := h
  have hsame : ∀ x, t.clock.time = some x → ∃ y, s.clock.time = some y ∧ y.minuteId = x.minuteId := fun x hx => by
    rw [hx] at htime
    exact Option.map_eq_some_iff.mp htime.symm
  refine ⟨fun x hx => ?_, fun hr => ?_, fun hr => ?_⟩
  · obtain ⟨y, hy, heq⟩ := hsame x hx
    have hm : x.minute = y.minute := (congrArg MinuteId.minute heq).symm
    exact hm ▸ hrange y hy
  · obtain ⟨hs, ht⟩ := hworks (hrecording ▸ hr)
    refine ⟨hstate.trans hs, ?_⟩
    rw [← Option.isSome_map (f := StationTime.minuteId), htime, Option.isSome_map, ht]
  · obtain ⟨o, y, ho, hy, hid, hafter⟩ := hopened (hrecording ▸ hr)
    rw [ho, Option.map_some, Option.map_eq_some_iff] at hopen
    rw [hy, Option.map_some, Option.map_eq_some_iff] at htime
    obtain ⟨o', ho', hid'⟩ := hopen
    obtain ⟨x, hx, heq⟩ := htime
    have hinterval : x.interval = y.interval := by
      unfold StationTime.interval
      injection heq with hyear hday hminute
      rw [hyear, hday, hminute]
    exact ⟨o', x, ho', hx, by rw [hid', hid, hinterval], fun l hl => hid' ▸ hafter l (hlast ▸ hl)⟩

theorem intervalsAdvance_off (hrange : ∀ x, s.clock.time = some x → x.minute ≤ 1439)
    (hoff : s.period.recording = .off) : s.intervalsAdvance :=
  ⟨hrange, fun h => absurd hoff h, fun h => by rw [hoff] at h; cases h⟩

theorem recording_off (h : s.intervalsAdvance) (hstate : s.ctrl.state ≠ .recording) : s.period.recording = .off := by
  by_contra hr
  exact hstate (h.2.1 hr).1

/-! The period unit's closes and openings. -/

theorem qualifies_before {p : Period} {i l : Id} (h : qualifies p i = true) (hl : p.lastOwn = some l) :
    l.before i = true := by
  rwa [qualifies, hl] at h

theorem closeOpenInterval_lastOwn (o : OpenInterval) (fate : Fate) (s : State) :
    (closeOpenInterval o fate s).period.lastOwn = some o.id := by
  unfold closeOpenInterval
  dsimp only
  split <;> split <;> simp

/-- R47, R52: after an interval close the interval that begins is open, and lies after the last own one. -/
theorem periodIntervalClose_advances (early : Bool) (next : Id) (s : State)
    (hopen : s.period.recording = .opened → ∃ o, s.period.openInterval = some o ∧ o.id.before next = true) :
    ((periodIntervalClose early next s).period.recording ≠ .off → s.period.recording ≠ .off) ∧
    ((periodIntervalClose early next s).period.recording = .opened →
      ∃ o, (periodIntervalClose early next s).period.openInterval = some o ∧ o.id = next ∧
        ∀ l, (periodIntervalClose early next s).period.lastOwn = some l → l.before o.id = true) := by
  unfold periodIntervalClose
  split
  · rename_i o hr ho
    obtain ⟨o', ho', hbefore⟩ := hopen hr
    obtain rfl : o = o' := Option.some.inj (ho.symm.trans ho')
    refine ⟨fun _ => by simp [hr], fun _ => ⟨_, rfl, rfl, fun l hl => ?_⟩⟩
    dsimp only at hl
    rw [(openInterval_periodFields ..).1, closeOpenInterval_lastOwn] at hl
    obtain rfl := Option.some.inj hl
    exact hbefore
  · rename_i hr
    split
    · rename_i hq
      refine ⟨fun _ => by simp [hr], fun _ => ⟨_, rfl, rfl, fun l hl => ?_⟩⟩
      rw [openFirst_periodFields] at hl
      exact qualifies_before hq hl
    · exact ⟨fun h => h, fun h => by rw [hr] at h; cases h⟩
  · rename_i hnone
    refine ⟨fun h => h, fun h => ?_⟩
    obtain ⟨o, ho, _⟩ := hopen h
    exact absurd ho (hnone o h)

/-! The closes and settings of the clock. -/

theorem closeMinute_time {now : StationTime} (early : Bool) (htime : s.clock.time = some now) :
    (closeMinute early s).clock.time = some now.nextMinute := by
  unfold closeMinute
  rw [htime]
  dsimp only
  split <;> split <;> simp [Clock.close]

theorem closeMeasurement_openIntervalId (m : MinuteId) (s : State) :
    (closeMeasurement m s).period.openInterval.map (fun o => o.id) = s.period.openInterval.map (fun o => o.id) := by
  have htake : ∀ r (x : State), (takeMinute r x).period.openInterval.map (fun o => o.id) =
      x.period.openInterval.map (fun o => o.id) := fun r x => by
    unfold takeMinute
    split
    · rename_i ho
      simp [ho, OpenInterval.take]
    · rfl
  unfold closeMeasurement
  split
  · rfl
  · dsimp only
    split <;> simp [htake]

/-- The station once the interval close of the running minute, if it has one, is made. -/
def intervalClosed (early : Bool) (now : StationTime) (s : State) : State :=
  if now.minute % 30 = 29 then periodIntervalClose early now.nextMinute.interval (minuteMeasured now s)
  else minuteMeasured now s

theorem closeMinute_period {now : StationTime} (early : Bool) (htime : s.clock.time = some now) :
    (closeMinute early s).period.recording = (intervalClosed early now s).period.recording ∧
    (closeMinute early s).period.lastOwn = (intervalClosed early now s).period.lastOwn ∧
    (closeMinute early s).period.openInterval = (intervalClosed early now s).period.openInterval := by
  have hclose : ∀ x : State, (closeInterval early now.interval now.nextMinute.interval x).period =
      (periodIntervalClose early now.nextMinute.interval x).period := fun x => by
    unfold closeInterval
    dsimp only
    split <;> simp
  unfold closeMinute intervalClosed minuteMeasured
  rw [htime]
  dsimp only
  split <;> split <;> simp [hclose]

theorem minuteMeasured_period (now : StationTime) (s : State) :
    (minuteMeasured now s).period.recording = s.period.recording ∧
    (minuteMeasured now s).period.lastOwn = s.period.lastOwn ∧
    (minuteMeasured now s).period.openInterval.map (fun o => o.id) = s.period.openInterval.map (fun o => o.id) :=
  ⟨by simp [minuteMeasured], by simp [minuteMeasured], by simp [minuteMeasured, closeMeasurement_openIntervalId]⟩

theorem intervalsAdvance_closeMinute (early : Bool) (h : s.intervalsAdvance) : (closeMinute early s).intervalsAdvance := by
  cases htime : s.clock.time with
  | none =>
    have hsame : closeMinute early s = s := by unfold closeMinute; rw [htime]
    rwa [hsame]
  | some now =>
    obtain ⟨hrange, hworks, hopened⟩ := h
    obtain ⟨hrecording, hlast, hopen⟩ := closeMinute_period early htime
    obtain ⟨hrecording', hlast', hopen'⟩ := minuteMeasured_period now s
    have hnow := closeMinute_time early htime
    have hrunning : s.period.recording = .opened → ∃ o, (minuteMeasured now s).period.openInterval = some o ∧
        o.id = now.interval ∧ ∀ l, s.period.lastOwn = some l → l.before o.id = true := fun hr => by
      obtain ⟨o, x, ho, hx, hid, hafter⟩ := hopened hr
      obtain rfl := Option.some.inj (htime.symm.trans hx)
      rw [ho, Option.map_some, Option.map_eq_some_iff] at hopen'
      obtain ⟨o', ho', hid'⟩ := hopen'
      exact ⟨o', ho', hid'.trans hid, fun l hl => hid' ▸ hafter l hl⟩
    have hclosed : ((intervalClosed early now s).period.recording ≠ .off → s.period.recording ≠ .off) ∧
        ((intervalClosed early now s).period.recording = .opened →
          ∃ o, (intervalClosed early now s).period.openInterval = some o ∧ o.id = now.nextMinute.interval ∧
            ∀ l, (intervalClosed early now s).period.lastOwn = some l → l.before o.id = true) := by
      unfold intervalClosed
      split
      · rename_i hend
        rw [← hrecording']
        refine periodIntervalClose_advances early _ _ fun hr => ?_
        obtain ⟨o, ho, hid, _⟩ := hrunning (hrecording' ▸ hr)
        exact ⟨o, ho, hid ▸ interval_before_next hend⟩
      · rename_i hinside
        rw [hrecording', hlast', interval_next_of_inside (hrange now htime) hinside]
        exact ⟨fun h => h, hrunning⟩
    rw [← hrecording, ← hlast, ← hopen] at hclosed
    refine ⟨fun x hx => ?_, fun hr => ⟨?_, by rw [hnow]; rfl⟩, fun hr => ?_⟩
    · obtain rfl := Option.some.inj (hnow.symm.trans hx)
      exact nextMinute_range now
    · rw [(closeMinute_frame early s).2.2.1]
      exact (hworks (hclosed.1 hr)).1
    · obtain ⟨o, ho, hid, hafter⟩ := hclosed.2 hr
      exact ⟨o, _, ho, hnow, hid, hafter⟩

theorem setTime_time (now : StationTime) (last : Option LastClosed) (s : State) :
    (setTime now last s).clock.time = some now := by simp [setTime]

/-- R101: a setting outside RECORDING finds the period unit at rest. -/
theorem intervalsAdvance_setTime {now : StationTime} (last : Option LastClosed) (hnow : now.minute ≤ 1439)
    (hstate : s.ctrl.state ≠ .recording) (h : s.intervalsAdvance) : (setTime now last s).intervalsAdvance := by
  refine intervalsAdvance_off (fun x hx => ?_) ?_
  · obtain rfl := Option.some.inj ((setTime_time now last s).symm.trans hx)
    exact hnow
  · simpa using recording_off h hstate

/-- R40: at a time acquisition the running interval is opened if it qualifies, and is waited for otherwise. -/
theorem intervalsAdvance_acquireTime {now : StationTime} (last : Option LastClosed) (hnow : now.minute ≤ 1439) :
    (acquireTime now last s).intervalsAdvance := by
  have htime : (acquireTime now last s).clock.time = some now := by simp [acquireTime, setTime_time]
  have hstate : (acquireTime now last s).ctrl.state = .recording := by simp [acquireTime, enterState]
  refine ⟨fun x hx => ?_, fun _ => ⟨hstate, by rw [htime]; rfl⟩, fun hr => ?_⟩
  · obtain rfl := Option.some.inj (htime.symm.trans hx)
    exact hnow
  · have hlast : (acquireTime now last s).period.lastOwn = (enterState .recording (setTime now last s)).period.lastOwn := by
      simp
    rw [htime, hlast]
    unfold acquireTime enterRecordingByTime at hr ⊢
    split
    · exact ⟨_, now, rfl, rfl, rfl, fun l hl => qualifies_before ‹_› hl⟩
    · rename_i hq
      rw [if_neg hq] at hr
      cases hr

theorem intervalsAdvance_takeMark (i : Id) (h : s.intervalsAdvance) : (takeMark i s).intervalsAdvance := by
  have hcount : (countDisagreement s).intervalsAdvance := intervalsAdvance_congr h rfl rfl rfl rfl rfl
  unfold takeMark
  split
  · exact h
  · exact h
  · exact h
  · split
    · exact intervalsAdvance_acquireTime _ (startTime_range ‹_›)
    · exact h
  · unfold decideMark
    split
    · exact hcount
    · split
      · exact hcount
      · split
        · split
          · exact intervalsAdvance_closeMinute true h
          · exact hcount
        · split
          · exact h
          · exact hcount

theorem stageTime_time (terminal : Nat) (target : StationTime) (s : State) :
    (stageTime terminal target s).clock.time = s.clock.time := by
  unfold stageTime
  split
  · rfl
  · rfl

theorem intervalsAdvance_takeTime (terminal : Nat) (f : TimeFields) (h : s.intervalsAdvance) :
    (takeTime terminal f s).1.intervalsAdvance := by
  unfold takeTime
  split
  · exact h
  · rename_i hok
    have hminute : f.toTime.minute ≤ 1439 := by
      simp only [targetTimeOk] at hok
      simp only [TimeFields.toTime]
      simp at hok
      omega
    split
    · exact intervalsAdvance_acquireTime _ hminute
    · exact intervalsAdvance_congr h (by rw [stageTime_time]) (by simp) (by simp) (by simp) (by simp)
    · rename_i hstate
      exact intervalsAdvance_setTime _ hminute (by simp [hstate]) h
    · exact h
    · exact h

theorem intervalsAdvance_elapse (dt : Nat) (h : s.intervalsAdvance) : (elapse dt s).intervalsAdvance := by
  refine intervalsAdvance_congr h ?_ (by simp) (by simp) (by simp) (by simp)
  rw [elapse_clock, Option.map_map]
  congr 1
  funext x
  exact advance_minuteId ..

/-! The station controller and the scan. -/

theorem intervalsAdvance_enterFromSetup (f : InForce) (terminal : Nat) (h : s.intervalsAdvance) :
    (enterFromSetup f terminal s).intervalsAdvance := by
  have htime : (enterFromSetup f terminal s).clock.time = s.clock.time := by simp
  obtain ⟨hrange, hworks, _⟩ := h
  unfold enterFromSetup at htime ⊢
  by_cases htimed : s.timed = true
  · simp only [htimed, if_true] at htime ⊢
    refine ⟨fun x hx => hrange x (htime ▸ hx), fun _ => ⟨by simp [enterState], by rw [htime]; exact htimed⟩, fun hr => ?_⟩
    cases hr
  · have hoff : s.period.recording = .off := by
      by_contra hr
      exact htimed (hworks hr).2
    simp only [htimed] at htime ⊢
    exact intervalsAdvance_off (fun x hx => hrange x (htime ▸ hx)) (by simpa using hoff)

theorem answerStart_state (code : AnswerCode) (s : State) : (answerStart code s).ctrl.state = s.ctrl.state := by
  unfold answerStart
  split
  · simp
  · rfl

theorem intervalsAdvance_answerStart (code : AnswerCode) (h : s.intervalsAdvance) :
    (answerStart code s).intervalsAdvance :=
  intervalsAdvance_congr h (by simp) (by simp) (by simp) (by simp) (answerStart_state code s)

theorem intervalsAdvance_configComplete (n : Nat) (pass : Bool) (h : s.intervalsAdvance) :
    (configComplete n pass s).intervalsAdvance := by
  have hcarried : ∀ {t : State} w, t.intervalsAdvance → (carryOutStart w t).intervalsAdvance := fun w h => by
    unfold carryOutStart
    split
    · exact intervalsAdvance_answerStart _ (intervalsAdvance_enterFromSetup _ _
        (intervalsAdvance_congr h (by simp) (by simp) (by simp) (by simp) rfl))
    · exact h
  have hwritten : ∀ c x, ((writeSlot 0 n c s).setStore x).intervalsAdvance := fun _ _ =>
    intervalsAdvance_congr h rfl rfl rfl rfl rfl
  unfold configComplete
  split
  · exact h
  · split
    · exact hcarried _ (hwritten _ _)
    · dsimp only
      split
      · exact intervalsAdvance_answerStart _ (intervalsAdvance_congr h rfl rfl rfl rfl rfl)
      · exact intervalsAdvance_congr h rfl rfl rfl rfl rfl

theorem intervalsAdvance_programComplete (pass : Bool) (h : s.intervalsAdvance) :
    (programComplete pass s).intervalsAdvance := by
  have hidle : (setProgrammer none s).intervalsAdvance := intervalsAdvance_congr h rfl rfl rfl rfl rfl
  unfold programComplete
  dsimp only
  split
  · exact intervalsAdvance_congr h (by simp) (by simp) (by simp) (by simp) (by simp)
  · exact intervalsAdvance_congr h (by simp) (by simp) (by simp) (by simp) (by simp)
  · exact intervalsAdvance_congr h (by simp) (by simp) (by simp) (by simp) (by simp)
  · exact intervalsAdvance_congr h (by simp) (by simp) (by simp) (by simp) (by simp)
  · exact intervalsAdvance_congr h (by simp) (by simp) (by simp) (by simp) (by simp)
  · exact intervalsAdvance_congr h (by simp) (by simp) (by simp) (by simp) (by simp)
  · exact intervalsAdvance_configComplete _ pass hidle
  · exact h
  · exact h
  · exact h

theorem intervalsAdvance_eraseComplete (pass : Bool) (h : s.intervalsAdvance) :
    (eraseComplete pass s).intervalsAdvance := by
  unfold eraseComplete
  split
  · unfold configEraseComplete
    split
    · exact intervalsAdvance_congr h (by simp) (by simp) (by simp) (by simp) (by simp)
    · exact intervalsAdvance_congr (intervalsAdvance_answerStart .condition
        (intervalsAdvance_congr (t := (setProgrammer none s).setStore { (setProgrammer none s).store with configWrite := none })
          h rfl rfl rfl rfl rfl)) (by simp [refuseStart]) (by simp [refuseStart]) (by simp [refuseStart])
        (by simp [refuseStart]) (by simp [refuseStart])
  · exact intervalsAdvance_congr h (by simp) (by simp) (by simp) (by simp) (by simp)
  · exact h

/-- R193: the scan ends with the period unit at rest. -/
theorem intervalsAdvance_scanEnds (es hs : List Nat) (h : s.intervalsAdvance) : (scanEnds es hs s).intervalsAdvance := by
  have htime : (scanEnds es hs s).clock = s.clock := by simp
  unfold scanEnds at htime ⊢
  split
  · rename_i hscan
    rw [if_pos hscan] at htime
    refine intervalsAdvance_off (fun x hx => h.1 x (htime ▸ hx)) ?_
    simpa [handOverPeriod] using recording_off h (by simp [hscan])
  · exact h

theorem intervalsAdvance_takeStartRequest (terminal : Nat) (h : s.intervalsAdvance) :
    (takeStartRequest terminal s).intervalsAdvance := by
  rcases takeStartRequest_cases terminal s with heq | ⟨code, heq⟩
  · exact heq ▸ intervalsAdvance_congr h rfl rfl rfl rfl rfl
  · exact heq ▸ intervalsAdvance_congr h (by simp) (by simp) (by simp) (by simp) (by simp)

/-- R191: a RESTART leaves the period unit OFF. -/
theorem intervalsAdvance_takeRestart (terminal : Nat) (h : s.intervalsAdvance) :
    (takeRestart terminal s).1.intervalsAdvance := by
  have hout : (carryOutRestart terminal s).intervalsAdvance := by
    refine intervalsAdvance_off (fun x hx => h.1 x ?_) (by simp [carryOutRestart, interruptPeriod])
    simpa using hx
  unfold takeRestart
  split
  · exact hout
  · exact hout
  · exact h
  · exact h
  · exact h

theorem takeConfigureBytes_state (payload : List Byte) (s : State) :
    (takeConfigureBytes payload s).1.ctrl.state = s.ctrl.state := by
  unfold takeConfigureBytes takeConfigure
  (repeat' split) <;> rfl

theorem intervalsAdvance_after (c : Instr) (h : s.intervalsAdvance) : (after c s).intervalsAdvance := by
  have hlink : ∀ (s : State) l, receptionOnly s.link l → s.intervalsAdvance → (s.setLink l).intervalsAdvance :=
    fun _ _ _ h => intervalsAdvance_congr h rfl rfl rfl rfl rfl
  have hanswer : ∀ {s : State} {k n taken code}, s.intervalsAdvance → (offerAnswer k n taken code s).intervalsAdvance :=
    fun h => intervalsAdvance_congr h (by simp) (by simp) (by simp) (by simp) (by simp)
  cases c with
  | powerOnReset straps fire feed clean trip => exact intervalsAdvance_off (fun _ hx => nomatch hx) rfl
  | inputEdge line active =>
    rw [after]
    split
    · exact h
    · exact intervalsAdvance_congr h (by simp) (by simp) (by simp) (by simp) (by simp)
  | minuteClose =>
    rw [after, minuteEnds]
    split
    · exact h
    · split
      · exact h
      · exact intervalsAdvance_closeMinute _ (intervalsAdvance_elapse _ h)
  | untimedMinuteClose =>
    rw [after, untimedEnds]
    split
    · rename_i u _
      exact intervalsAdvance_congr (intervalsAdvance_elapse (60000000 - u) h) (by simp) (by simp) (by simp) (by simp)
        (by simp)
    · exact h
  | entryExpired =>
    rw [after, expireEntry]
    split
    · exact h
    · exact intervalsAdvance_elapse _ (intervalsAdvance_congr h rfl rfl rfl rfl rfl)
  | loadEntryAgeOut n =>
    rw [after, ageOut]
    split
    · split
      · exact h
      · rename_i e _ _
        exact intervalsAdvance_congr (intervalsAdvance_elapse (3600000000 - e.age) h) rfl rfl rfl rfl rfl
    · exact h
  | mark sender target payload => exact receiveKind_keeps hlink (fun _ h => intervalsAdvance_takeMark _ h) h
  | time sender target payload =>
    exact receiveRequest_keeps hlink (fun _ _ h => hanswer h) (fun _ h => hanswer (intervalsAdvance_takeTime _ _ h)) h
  | configure sender target payload =>
    refine receiveRequest_keeps hlink (fun _ _ h => hanswer h) (fun _ h => hanswer ?_) h
    exact intervalsAdvance_congr h (by simp) (by simp) (by simp) (by simp) (takeConfigureBytes_state ..)
  | start sender target payload =>
    exact receiveRequest_keeps hlink (fun _ _ h => hanswer h) (fun _ h => intervalsAdvance_takeStartRequest _ h) h
  | restart sender target payload =>
    exact receiveRequest_keeps hlink (fun _ _ h => hanswer h) (fun _ h => hanswer (intervalsAdvance_takeRestart _ h)) h
  | slotProgramComplete pass => exact intervalsAdvance_programComplete pass h
  | blockEraseComplete pass => exact intervalsAdvance_eraseComplete pass h
  | scanComplete es hs => exact intervalsAdvance_scanEnds es hs h
  | _ =>
    refine intervalsAdvance_congr h ?_ ?_ ?_ ?_ ?_ <;>
      simp [after, apply_ite State.clock, apply_ite State.period, apply_ite State.ctrl]

end Intervals

/-- Settles O16: the invariant's two facts rest on the minute, the period unit's ids and the station state alone. -/
theorem noIntervalIsRecordedTwice : Obligations.NoIntervalIsRecordedTwice :=
  step_keeps (fun _ _ h => intervalsAdvance_congr h rfl rfl rfl rfl rfl) (fun _ h => intervalsAdvance_elapse _ h)
    fun c _ h => intervalsAdvance_after c h

end Sys2Proof.Proofs

/-! The reset, the rules of single frames, the small rules of rounding, minute states and fates, and what only some commands
can change. -/

namespace Sys2Proof.Proofs

open Sys2Proof.Machine Sys2Proof.Laws

/-! Rounding, minute states and fates. -/

/-- Settles O9: with r the remainder of 2|x| + y by 2y, twice the distance of the rounded product from |x| is |y − r|. -/
theorem roundingIsToNearestAwayFromZero : Obligations.RoundingIsToNearestAwayFromZero := by
  intro x y hy
  obtain ⟨n, hn⟩ : ∃ n, n = (2 * x.natAbs + y) / (2 * y) := ⟨_, rfl⟩
  have hdivision := Nat.div_add_mod (2 * x.natAbs + y) (2 * y)
  have hremainder := Nat.mod_lt (2 * x.natAbs + y) (show 0 < 2 * y by omega)
  have hround : roundDiv x y = if 0 ≤ x then (n : Int) else -n := by rw [hn]; rfl
  rw [← hn, show 2 * y * n = 2 * (y * n) by ring] at hdivision
  rw [hround]
  generalize hproduct : y * n = p at hdivision
  have hproduct' : (y : Int) * n = p := by rw [← hproduct]; push_cast; rfl
  split
  · rw [hproduct']
    omega
  · rw [mul_neg, hproduct']
    omega

/-- Settles O10: the conditions of R16 in the order of its table. -/
theorem minuteStateOfAChannel : Obligations.MinuteStateOfAChannel := by
  intro e minReadings
  have hstate : (e.minuteValue minReadings).state = minuteState e.acc e.nullified minReadings := rfl
  rw [hstate]
  unfold minuteState
  cases hn : e.nullified with
  | true => simp
  | false =>
    by_cases hvalid : minReadings ≤ e.acc.count ∧ e.acc.overflow = false
    · simp [hvalid]
    · have hcondition : (decide (minReadings ≤ e.acc.count) && !e.acc.overflow) = false := by simpa using hvalid
      cases hm : e.acc.maintSeen <;> simp [hcondition] <;> simpa using hvalid

/-- Settles O14: the conditions of R48 in the order of its table. -/
theorem fateOfAnInterval : Obligations.FateOfAnInterval := by
  intro interrupted operating abnormal
  unfold decideFate
  cases interrupted with
  | true => simp
  | false =>
    by_cases hoperating : operating = 0
    · simp [hoperating]
    · by_cases habnormal : 1 ≤ abnormal
      · simp [hoperating, habnormal]; omega
      · simp [hoperating, habnormal]; omega

/-! The reset. -/

theorem getD_replicate {α : Type} (a : α) (m n : Nat) : (List.replicate m a).getD n a = a := by
  rw [List.getD_eq_getElem?_getD, List.getElem?_replicate]
  split <;> rfl

/-- Settles O2: a reset forms the state from the reset values of the blocks. -/
theorem powerOnResetLeavesEveryBlockAtReset : Obligations.PowerOnResetLeavesEveryBlockAtReset := by
  intro straps fire feed clean trip s
  have hstraps : straps.toNat = 0 ↔ straps = 0 := by bv_omega
  have hstation : stationOfStraps straps = if straps = 0 then 8 else straps.toNat := by
    simp only [stationOfStraps, hstraps]
  refine ⟨_, rfl, rfl, hstation, ?_⟩
  have hentry : ∀ n, ({} : ShareUnit).entry n = none := fun n => getD_replicate none 8 (n - 1)
  have horigin : ∀ n, ({} : Mirror).origin n = {} := fun n => getD_replicate ({} : OriginEntry) 8 (n - 1)
  have hwindow : ∀ n, ({} : Readout).window n = none := fun n => getD_replicate none 4 (n - 12)
  have hdeferred : ∀ n, noDeferred.getD n none = none := fun n => getD_replicate none 4 n
  have hchannels : ∀ e ∈ emptyChannels, e = {} := fun e he => List.eq_of_mem_replicate he
  exact ⟨rfl, rfl, rfl, rfl, rfl, rfl, rfl, rfl, rfl, rfl, rfl, rfl, rfl, rfl, rfl, rfl, rfl, rfl, rfl, rfl, rfl,
    rfl, rfl, rfl, rfl, rfl, rfl, rfl, rfl, rfl, rfl, rfl, rfl, rfl, rfl, rfl, rfl, rfl, rfl, rfl, rfl, rfl, rfl, rfl,
    hentry, rfl, rfl, horigin, hwindow, rfl, hdeferred, hchannels, rfl, rfl, rfl, rfl, rfl, rfl, rfl, rfl, rfl, rfl, rfl,
    rfl, rfl⟩

/-- Settles O60: an empty queue, empty tables and the die of the factory meet every invariant. -/
theorem resetHasEveryInvariant : Obligations.ResetHasEveryInvariant := by
  refine ⟨?_, intervalsAdvance_off (fun _ hx => nomatch hx) rfl, ⟨rfl, rfl⟩, ⟨Nat.zero_le _, fun _ => rfl⟩,
    ⟨Nat.zero_le _, Nat.zero_le _, fun _ => Nat.zero_le _⟩, ⟨List.Pairwise.nil, fun _ he => absurd he List.not_mem_nil⟩,
    ⟨Nat.zero_le _, Nat.zero_le _, Nat.zero_le _⟩, reset_dieWf, ⟨rfl, rfl, rfl, blankBlocks_length, rfl, rfl, rfl⟩,
    ⟨fun _ he => absurd he List.not_mem_nil, fun _ hr => absurd hr List.not_mem_nil,
      fun _ hp => absurd hp.symm (Option.some_ne_none _)⟩, fun _ he => absurd he List.not_mem_nil⟩
  exact accumulatorsBounded_of_count_sum (by simp [State.reset, emptyChannels])

/-! Single frames. -/

/-- Settles O22. -/
theorem brokenFrameWaitsForIdle : Obligations.BrokenFrameWaitsForIdle := by
  refine ⟨fun cause s hattempt hreceiver => ?_, fun s hattempt => ?_⟩
  · rw [exec_eq_after, after, breakFrame, hattempt]
    cases hr : s.link.receiver with
    | waitIdle => exact absurd hr hreceiver
    | idle => rfl
    | assembling => rfl
    | afterFrame => rfl
  · rw [exec_eq_after, after, lineFallsIdle, hattempt]
    rfl

/-- Settles O23: every command that carries a frame gives it to the receiver, which waits. -/
theorem noFrameIsTakenBeforeIdle : Obligations.NoFrameIsTakenBeforeIdle := by
  intro c s hcarries hattempt hwaits
  have hwhole := wholeFrame_waitIdle hattempt hwaits
  rw [exec_eq_after]
  congr 1
  cases c with
  | frameBroken cause => rw [after, breakFrame, hattempt, hwaits]
  | frameCheckFail characters => rw [after, hwhole, ite_self]
  | trafficForAnotherNode kind sender target payload => rw [after, receiveFrame, hwhole, ite_self]
  | addressClash kind target payload => exact hwhole _
  | mark sender target payload => exact hwhole _
  | load sender target payload => exact hwhole _
  | result sender target payload => exact hwhole _
  | statusReq sender target payload => exact hwhole _
  | window sender target payload => exact hwhole _
  | read sender target payload => exact hwhole _
  | time sender target payload => exact hwhole _
  | release sender target payload => exact hwhole _
  | configure sender target payload => exact hwhole _
  | start sender target payload => exact hwhole _
  | restart sender target payload => exact hwhole _
  | _ => cases hcarries

/-- Settles O24. -/
theorem failedChecksAndClashesAreCounted : Obligations.FailedChecksAndClashesAreCounted := by
  refine ⟨fun characters s hhears hfails => ?_, fun kind target k payload s hhears hstation hkind hallowed => ?_⟩
  · rw [exec_eq_after, after, if_neg (by simp [hfails]), wholeFrame_hearing hhears]
    rfl
  · have hsender : (BitVec.ofNat 8 s.station).toNat = s.ctrl.station := by
      rw [BitVec.toNat_ofNat]
      exact Nat.mod_eq_of_lt hstation
    rw [exec_eq_after, after, receiveFrame, wholeFrame_hearing hhears, checkFrame, hkind]
    dsimp only
    rw [hsender, hallowed, if_neg (by simp), if_pos (show s.ctrl.station = s.frameOver.station from rfl)]
    rfl

/-! A CUTOFF holds (R74). -/

section Cutoff

variable {s : State} {cause : CutoffCause}

theorem edgeMachine_cutoff (line : InputLine) (active : Bool) (h : s.plant.machine = .cutoff cause) :
    edgeMachine line active s = s := by
  unfold edgeMachine
  rw [h]

theorem takeEdge_cutoff (line : InputLine) (active : Bool) (h : s.plant.machine = .cutoff cause) :
    (takeEdge line active s).plant.machine = .cutoff cause := by
  have hflags : (edgeFlags line active (setLevel line active s.plant)).machine = .cutoff cause := by
    rw [(StoreInvariant.edgeFlags_setLevel line active s.plant).2.2.1, h]
  have hmachine : ∀ t : State, t.plant.machine = .cutoff cause →
      (if t.ctrl.state = .scan || t.ctrl.state = .failed then t else edgeMachine line active t).plant.machine =
        .cutoff cause := fun t ht => by
    split
    · exact ht
    · rw [edgeMachine_cutoff line active ht, ht]
  refine hmachine _ ?_
  split
  · exact hflags
  · exact hflags

theorem countMinute_cutoff (h : s.plant.machine = .cutoff cause) : (countMinute s).plant.machine = .cutoff cause := by
  unfold countMinute
  cases hflag : s.plant.abnormalFlag <;> simp [hflag, h]

theorem stopUntimedTimer_cutoff (year : Nat) (h : s.plant.machine = .cutoff cause) :
    (stopUntimedTimer year s).plant.machine = .cutoff cause := by
  unfold stopUntimedTimer
  dsimp only
  split <;> simp [countMinute_cutoff h, h]

theorem closeMinute_cutoff (early : Bool) (h : s.plant.machine = .cutoff cause) :
    (closeMinute early s).plant.machine = .cutoff cause := by
  have hcount : ∀ t : State, t.plant.machine = .cutoff cause → ∀ year, (plantMinuteClose year t).plant.machine = .cutoff cause :=
    fun t ht year => by simp [plantMinuteClose, countMinute_cutoff ht]
  unfold closeMinute
  split
  · exact h
  · dsimp only
    split <;> split <;> simp [hcount, h]

theorem setTime_cutoff (now : StationTime) (last : Option LastClosed) (h : s.plant.machine = .cutoff cause) :
    (setTime now last s).plant.machine = .cutoff cause := by
  have hstopped := stopUntimedTimer_cutoff now.year (s := (s.setClock { s.clock with
    time := some now, minuteLength := 60, staged := none, lastClosed := last }).setIntake (intakeRestart s.intake)) h
  simpa [setTime] using hstopped

theorem acquireTime_cutoff (now : StationTime) (last : Option LastClosed) (h : s.plant.machine = .cutoff cause) :
    (acquireTime now last s).plant.machine = .cutoff cause := by
  simp [acquireTime, setTime_cutoff now last h]

theorem takeMark_cutoff (i : Id) (h : s.plant.machine = .cutoff cause) :
    (takeMark i s).plant.machine = .cutoff cause := by
  unfold takeMark
  split
  · exact h
  · exact h
  · exact h
  · split
    · exact acquireTime_cutoff _ _ h
    · exact h
  · unfold decideMark
    split
    · exact h
    · split
      · exact h
      · split
        · split
          · exact closeMinute_cutoff true h
          · exact h
        · split
          · exact h
          · exact h

theorem takeTime_cutoff (terminal : Nat) (f : TimeFields) (h : s.plant.machine = .cutoff cause) :
    (takeTime terminal f s).1.plant.machine = .cutoff cause := by
  unfold takeTime
  split
  · exact h
  · split
    · exact acquireTime_cutoff _ _ h
    · simpa using h
    · exact setTime_cutoff _ _ h
    · exact h
    · exact h

theorem takeRestart_machine (terminal : Nat) (s : State) :
    (takeRestart terminal s).1.plant.machine = s.plant.machine := by
  unfold takeRestart
  split <;> simp

theorem programComplete_machine (pass : Bool) (s : State) :
    (programComplete pass s).plant.machine = s.plant.machine := by
  unfold programComplete
  dsimp only
  split <;> simp

theorem eraseComplete_machine (pass : Bool) (s : State) : (eraseComplete pass s).plant.machine = s.plant.machine := by
  unfold eraseComplete
  split <;> simp

theorem after_cutoff (c : Instr) (h : s.plant.machine = .cutoff cause)
    (hrelease : ∀ sender target payload, c ≠ .release sender target payload)
    (hreset : ∀ straps fire feed clean trip, c ≠ .powerOnReset straps fire feed clean trip)
    (hscan : s.ctrl.state = .scan → ∀ erases headers, c ≠ .scanComplete erases headers) :
    (after c s).plant.machine = .cutoff cause := by
  have hlink : ∀ (s : State) l, receptionOnly s.link l → s.plant.machine = .cutoff cause →
      (s.setLink l).plant.machine = .cutoff cause := fun _ _ _ h => h
  have hanswer : ∀ {s : State} {k n taken code}, s.plant.machine = .cutoff cause →
      (offerAnswer k n taken code s).plant.machine = .cutoff cause := fun h => by simpa using h
  cases c with
  | release sender target payload => exact absurd rfl (hrelease sender target payload)
  | powerOnReset straps fire feed clean trip => exact absurd rfl (hreset straps fire feed clean trip)
  | scanComplete erases headers =>
    rw [after, scanEnds, if_neg fun hs => hscan hs erases headers rfl]
    exact h
  | inputEdge line active =>
    rw [after]
    split
    · exact h
    · exact takeEdge_cutoff line active h
  | minuteClose =>
    rw [after, minuteEnds]
    split
    · exact h
    · split
      · exact h
      · exact closeMinute_cutoff false h
  | untimedMinuteClose =>
    rw [after, untimedEnds]
    split
    · rename_i u _
      have hcounted := countMinute_cutoff (s := elapse (60000000 - u) s) h
      simpa [untimedExpiry] using hcounted
    · exact h
  | entryExpired =>
    rw [after, expireEntry]
    split <;> exact h
  | loadEntryAgeOut n =>
    rw [after, ageOut]
    split
    · split <;> exact h
    · exact h
  | mark sender target payload => exact receiveKind_keeps hlink (fun _ h => takeMark_cutoff _ h) h
  | time sender target payload =>
    exact receiveRequest_keeps hlink (fun _ _ h => hanswer h) (fun _ h => hanswer (takeTime_cutoff _ _ h)) h
  | restart sender target payload =>
    exact receiveRequest_keeps hlink (fun _ _ h => hanswer h)
      (fun _ h => hanswer ((takeRestart_machine ..).trans h)) h
  | slotProgramComplete pass => exact (programComplete_machine pass s).trans h
  | blockEraseComplete pass => exact (eraseComplete_machine pass s).trans h
  | _ => simpa [after, apply_ite State.plant] using h

end Cutoff

/-- Settles O20: in CUTOFF the machine takes no edge and reaches no limit, and nothing else but these commands sets it. -/
theorem onlyReleaseEndsCutoff : Obligations.OnlyReleaseEndsCutoff := by
  intro c cause s t h hexec hrelease hreset hscan
  rw [← after_of_exec hexec]
  exact after_cutoff c h hrelease hreset hscan

/-! The station number and the configuration in force (R183, R188, R190). -/

/-- The commands at which a configuration may come into force. -/
def bringsIntoForce : Instr → Bool
  | .powerOnReset _ _ _ _ _ | .slotProgramComplete _ | .scanComplete _ _ => true
  | _ => false

theorem programComplete_station (pass : Bool) (s : State) :
    (programComplete pass s).ctrl.station = s.ctrl.station := by
  unfold programComplete
  dsimp only
  split <;> simp

theorem after_ctrlFields {c : Instr} (s : State) (h : bringsIntoForce c = false) :
    (after c s).ctrl.station = s.ctrl.station ∧ (after c s).ctrl.inForce = s.ctrl.inForce := by
  have hkind : ∀ {k sender target payload owner}, (∀ s : State, (owner s).ctrl.station = s.ctrl.station ∧
      (owner s).ctrl.inForce = s.ctrl.inForce) → ∀ s : State,
      (receiveKind k sender target payload owner s).ctrl.station = s.ctrl.station ∧
      (receiveKind k sender target payload owner s).ctrl.inForce = s.ctrl.inForce := fun howner s =>
    ⟨receiveKind_view (fun s => s.ctrl.station) (fun _ _ => rfl) fun s => (howner s).1,
      receiveKind_view (fun s => s.ctrl.inForce) (fun _ _ => rfl) fun s => (howner s).2⟩
  have hrequest : ∀ {k sender target payload serve}, (∀ s : State, (serve s).ctrl.station = s.ctrl.station ∧
      (serve s).ctrl.inForce = s.ctrl.inForce) → ∀ s : State,
      (receiveRequest k sender target payload serve s).ctrl.station = s.ctrl.station ∧
      (receiveRequest k sender target payload serve s).ctrl.inForce = s.ctrl.inForce := fun hserve s =>
    ⟨receiveRequest_view (fun s => s.ctrl.station) (fun _ _ => rfl) (by simp) fun s => (hserve s).1,
      receiveRequest_view (fun s => s.ctrl.inForce) (fun _ _ => rfl) (by simp) fun s => (hserve s).2⟩
  cases c with
  | powerOnReset _ _ _ _ _ => cases h
  | slotProgramComplete _ => cases h
  | scanComplete _ _ => cases h
  | mark sender target payload => exact hkind (fun s => by simp) s
  | time sender target payload => exact hrequest (fun s => by simp) s
  | configure sender target payload => exact hrequest (fun s => by simp) s
  | start sender target payload => exact hrequest (fun s => by simp) s
  | restart sender target payload => exact hrequest (fun s => by simp) s
  | _ => simp [after, apply_ite State.ctrl]

/-- Settles O58: no other command sets the two fields, and the completions and the scan keep the station number. -/
theorem stationAndConfigurationAreFixed : Obligations.StationAndConfigurationAreFixed := by
  intro c s t hexec hreset
  rw [← after_of_exec hexec]
  cases c with
  | powerOnReset straps fire feed clean trip => exact absurd rfl (hreset straps fire feed clean trip)
  | slotProgramComplete pass => exact ⟨programComplete_station pass s, fun h => absurd rfl (h pass)⟩
  | scanComplete erases headers =>
    exact ⟨(scanEnds_ctrlFields erases headers s), fun _ h => absurd rfl (h erases headers)⟩
  | _ => exact (after_ctrlFields s rfl).imp_right fun h _ _ => h

end Sys2Proof.Proofs

/-! The analyser line (01): what a frame received while hunting does. -/

namespace Sys2Proof.Proofs

open Sys2Proof.Machine Sys2Proof.Laws

section AnalyserLine

variable {s : State} {f : List Byte} {st : AnalyserStatus} {e : ChannelEntry}

/-! The bytes of a frame (R2, R3). -/

theorem receiveAnalyserByte_assembling (ps : List Byte) (p b : Byte) (s : State) (hlen : ps.length < 6) :
    receiveAnalyserByte (setPartial (p :: ps) s) b = setPartial (p :: (ps ++ [b])) s := by
  have hpartial : (setPartial (p :: ps) s).intake.partialFrame = p :: ps := rfl
  rw [receiveAnalyserByte, hpartial]
  dsimp only
  rw [if_pos (by simp; omega)]
  rfl

theorem receiveAnalyserByte_last (ps : List Byte) (p b : Byte) (s : State) (hlen : ps.length = 6) :
    receiveAnalyserByte (setPartial (p :: ps) s) b = checkReadingFrame (p :: (ps ++ [b])) (setPartial (p :: ps) s) := by
  have hpartial : (setPartial (p :: ps) s).intake.partialFrame = p :: ps := rfl
  rw [receiveAnalyserByte, hpartial]
  dsimp only
  rw [if_neg (by simp; omega)]
  rfl

theorem foldl_assembling (bytes ps : List Byte) (p : Byte) (s : State) (hlen : ps.length + bytes.length ≤ 6) :
    bytes.foldl receiveAnalyserByte (setPartial (p :: ps) s) = setPartial (p :: (ps ++ bytes)) s := by
  induction bytes generalizing ps with
  | nil => simp
  | cons b rest ih =>
    simp only [List.length_cons] at hlen
    rw [List.foldl_cons, receiveAnalyserByte_assembling _ _ _ _ (by omega), ih (ps ++ [b]) (by simp; omega)]
    simp

/-- R2: eight bytes of which the first is the sync value, received while hunting, are checked as one frame. -/
theorem foldl_frame (hlen : f.length = 8) (hsync : f.head? = some syncByte) (hhunting : s.intake.partialFrame = []) :
    ∃ bytes, f.foldl receiveAnalyserByte s = checkReadingFrame f (setPartial bytes s) := by
  cases f with
  | nil => cases hsync
  | cons p rest =>
    obtain rfl : p = syncByte := Option.some.inj hsync
    have hfirst : receiveAnalyserByte s syncByte = setPartial [syncByte] s := by
      rw [receiveAnalyserByte, hhunting]
      exact if_pos rfl
    have hrest : rest ≠ [] := fun h => by simp [h] at hlen
    have hmiddle : rest.dropLast.length = 6 := by simpa using hlen
    refine ⟨syncByte :: rest.dropLast, ?_⟩
    conv_lhs => rw [← List.dropLast_concat_getLast hrest]
    rw [List.foldl_cons, hfirst, List.foldl_append, foldl_assembling _ [] _ _ (by simp [hmiddle]), List.nil_append,
      List.foldl_cons, List.foldl_nil, receiveAnalyserByte_last _ _ _ _ hmiddle, List.dropLast_concat_getLast hrest]

theorem setPartial_hunting (hhunting : s.intake.partialFrame = []) : setPartial [] s = s := by
  rw [setPartial, ← hhunting]
  rfl

theorem setPartial_setPartial (bytes bytes' : List Byte) (s : State) :
    setPartial bytes (setPartial bytes' s) = setPartial bytes s := rfl

/-- R3: an accepted reading frame received while hunting is taken by its channel. -/
theorem exec_acceptedReading (hf : acceptedReading f st) (hhunting : s.intake.partialFrame = []) :
    exec (.analyserFrame f) s = .next (takeReading (field f 1 1) st (fieldSigned f 3 3) s) := by
  obtain ⟨bytes, hbytes⟩ := foldl_frame hf.length hf.sync hhunting
  rw [exec_eq_after, after, hbytes, checkReadingFrame, if_pos (by simpa using hf.check),
    hf.status]
  dsimp only
  rw [if_pos hf.channel, setPartial_setPartial, setPartial_hunting hhunting]

/-! The channel entry (R5 to R14). -/

/-- The reading as its channel takes it (R5, R6). -/
def readingTaken (s : State) (ch : Nat) (st : AnalyserStatus) (value : Int) : Reading :=
  { status := st, value := takenValue s.config (roleOf s.config ch) st value }

/-- A channel's entry after a reading's capture and the examination of its settle slot. -/
def examinedEntry (s : State) (ch : Nat) (st : AnalyserStatus) (value : Int) (e : ChannelEntry) : ChannelEntry :=
  (e.capture (readingTaken s ch st value)).examine (settleMinutes s) st

/-- What an accepted reading makes of its channel's entry. -/
def takenEntry (s : State) (ch : Nat) (st : AnalyserStatus) (value : Int) (e : ChannelEntry) : ChannelEntry :=
  let e := examinedEntry s ch st value e
  if accumulating s.ctrl.state && (roleOf s.config ch).isSome then
    { e with acc := e.acc.accumulate (readingTaken s ch st value) }
  else e

theorem takeReading_self {ch : Nat} (value : Int) (he : s.intake.channels[ch]? = some e) :
    (takeReading ch st value s).intake.channels[ch]? = some (takenEntry s ch st value e) := by
  have : (takeReading ch st value s).intake.channels = updateAt s.intake.channels ch (takenEntry s ch st value) := rfl
  simp [this, updateAt, he]

theorem takeReading_of_ne {ch n : Nat} (value : Int) (hn : n ≠ ch) :
    (takeReading ch st value s).intake.channels[n]? = s.intake.channels[n]? := by
  have : (takeReading ch st value s).intake.channels = updateAt s.intake.channels ch (takenEntry s ch st value) := rfl
  simp [this, updateAt, hn.symm]

theorem examine_capture (e : ChannelEntry) (m : Nat) (st : AnalyserStatus) :
    (e.examine m st).latest = e.latest ∧ (e.examine m st).previous = e.previous := by
  unfold ChannelEntry.examine
  split
  · exact ⟨rfl, rfl⟩
  · split <;> exact ⟨rfl, rfl⟩

theorem takenEntry_latest (ch : Nat) (value : Int) :
    (takenEntry s ch st value e).latest = some (readingTaken s ch st value) ∧
    (takenEntry s ch st value e).previous = e.latest := by
  unfold takenEntry
  dsimp only
  split
  · exact ⟨(examine_capture ..).1, (examine_capture ..).2⟩
  · exact examine_capture ..

/-- Settles O4. -/
theorem acceptedReadingIsCaptured : Obligations.AcceptedReadingIsCaptured := by
  intro f st e s hf hhunting he
  obtain ⟨hlatest, hprevious⟩ := takenEntry_latest (s := s) (st := st) (e := e) (field f 1 1) (fieldSigned f 3 3)
  exact ⟨_, _, exec_acceptedReading hf hhunting, rfl, takeReading_self _ he, hlatest, hprevious,
    fun n hn => takeReading_of_ne _ hn, hhunting, rfl, rfl, rfl, rfl⟩

/-! The minute accumulator (R11 to R14). -/

/-- In a state that accumulates, a reading of a channel with a role enters the accumulator after the settle slot. -/
theorem takenEntry_acc {ch : Nat} {role : Role} (value : Int) (hserving : s.serving)
    (hrole : roleOf s.config ch = some role) : ∃ mark, (takenEntry s ch st value e).acc =
      MinuteAcc.accumulate { e.acc with returnMark := mark }
        { status := st, value := takenValue s.config (some role) st value } := by
  have haccumulates : accumulating s.ctrl.state = true := by
    rcases hserving with h | h | h <;> rw [h] <;> rfl
  refine ⟨(e.capture (readingTaken s ch st value)).returned || e.acc.returnMark, ?_⟩
  unfold takenEntry
  dsimp only
  rw [if_pos (by rw [hrole, haccumulates]; rfl), examinedEntry, examine_acc, ← hrole]
  rfl

/-- R11 to R13: what a value as taken makes of an accumulator, whatever its marks of the settle slot and of clamping. -/
theorem added_taken (a : MinuteAcc) (mark clamped : Bool) (v : Int) :
    a.added (if 1023 ≤ a.count then { a with returnMark := mark, clamped := clamped, crowded := true }
      else MinuteAcc.add { a with returnMark := mark, clamped := clamped } v) v := by
  unfold MinuteAcc.added
  split
  case isTrue hfull => exact ⟨fun _ => ⟨rfl, rfl, rfl, rfl⟩, fun hroom => by omega, rfl, rfl⟩
  case isFalse hroom =>
    refine ⟨fun hfull => absurd hfull hroom, fun _ => ⟨rfl, rfl, fun hover => ?_, fun hunder => ?_,
      fun hlow hhigh => ?_⟩, rfl, rfl⟩
    · simp [MinuteAcc.add, saturate32, hover]
    · simp [MinuteAcc.add, saturate32, hunder, show ¬2147483647 < a.sum + v by omega]
    · simp [MinuteAcc.add, saturate32, show ¬2147483647 < a.sum + v by omega,
        show ¬a.sum + v < -2147483647 by omega]

/-- Settles O5. -/
theorem measuringReadingIsAccumulated : Obligations.MeasuringReadingIsAccumulated := by
  refine ⟨fun f e role v s hf hhunting he hserving hrole hv => ?_, fun f e role s hf hhunting he hserving hrole => ?_,
    fun f st e role s hf hst hhunting he hserving hrole => ?_⟩
  · obtain ⟨mark, hacc⟩ := takenEntry_acc (e := e) (st := .measuring) (fieldSigned f 3 3) hserving hrole
    refine ⟨_, _, exec_acceptedReading hf hhunting, takeReading_self _ he, ?_⟩
    rw [hacc, hv]
    refine ⟨added_taken e.acc mark e.acc.clamped v, ?_⟩
    unfold MinuteAcc.accumulate
    dsimp only
    split <;> rfl
  · obtain ⟨mark, hacc⟩ := takenEntry_acc (e := e) (st := .overrange) (fieldSigned f 3 3) hserving hrole
    refine ⟨_, _, standIn s.config (some role), exec_acceptedReading hf hhunting, takeReading_self _ he, ?_, ?_,
      fun n c hn hc => ?_, fun hrole => ?_⟩
    · rw [hacc]
      exact added_taken e.acc mark true _
    · rw [hacc]
      unfold MinuteAcc.accumulate
      dsimp only
      split <;> rfl
    · subst hn
      simp [standIn, List.getD_eq_getElem?_getD, hc]
    · unfold standIn
      split
      · exact absurd (Option.some.inj ‹_›) (hrole _)
      · rfl
  · obtain ⟨mark, hacc⟩ := takenEntry_acc (e := e) (st := st) (fieldSigned f 3 3) hserving hrole
    refine ⟨_, _, exec_acceptedReading hf hhunting, takeReading_self _ he, ?_⟩
    rw [hacc]
    cases st with
    | measuring => cases hst
    | overrange => cases hst
    | calibrating => exact ⟨fun _ => rfl, nofun⟩
    | maintenance => exact ⟨fun _ => rfl, nofun⟩
    | fault => exact ⟨fun h => absurd rfl h, fun _ => rfl⟩

/-! The settle slot (R8, R10). -/

theorem accumulate_returnMark (a : MinuteAcc) (r : Reading) : (a.accumulate r).returnMark = a.returnMark := by
  unfold MinuteAcc.accumulate
  cases r.status with
  | calibrating => rfl
  | maintenance => rfl
  | fault => rfl
  | measuring => dsimp only; split <;> rfl
  | overrange => dsimp only; split <;> rfl

/-- Accumulation leaves the settle slot as the examination left it. -/
theorem takenEntry_settle (ch : Nat) (value : Int) :
    (takenEntry s ch st value e).settle = (examinedEntry s ch st value e).settle ∧
    (takenEntry s ch st value e).acc.returnMark = (examinedEntry s ch st value e).acc.returnMark := by
  unfold takenEntry
  dsimp only
  split
  · exact ⟨rfl, accumulate_returnMark ..⟩
  · exact ⟨rfl, rfl⟩

/-- R8: a return is a reading of the measuring class after one of the non-measuring class. -/
theorem returned_capture (e : ChannelEntry) (r : Reading) :
    (e.capture r).returned = e.latest.any (fun p => r.status.isMeasuring && !p.status.isMeasuring) := by
  unfold ChannelEntry.returned ChannelEntry.capture
  cases e.latest <;> rfl

theorem settleMinutes_of_config {cfg : ConfigImage} (hcfg : s.config? = some cfg) :
    settleMinutes s = cfg.settleMinutes := by
  rw [settleMinutes, hcfg]

/-- Settles O7. -/
theorem settleSlotFollowsReturnsAndDropouts : Obligations.SettleSlotFollowsReturnsAndDropouts := by
  intro f st e cfg s hf hhunting he hcfg
  obtain ⟨hsettle, hmark⟩ := takenEntry_settle (s := s) (st := st) (e := e) (field f 1 1) (fieldSigned f 3 3)
  refine ⟨_, _, exec_acceptedReading hf hhunting, takeReading_self _ he, ?_⟩
  rw [hsettle, hmark]
  unfold examinedEntry ChannelEntry.examine
  rw [settleMinutes_of_config hcfg]
  rw [returned_capture]
  refine ⟨fun r hr hmeasuring hdropped => ?_, fun hdropped hsettling => ?_, fun hnone hmeasuring => ?_⟩
  · simp [hr, hmeasuring, hdropped, readingTaken]
  · have hslot : (e.capture (readingTaken s (field f 1 1) st (fieldSigned f 3 3))).settling = true := by
      rcases hsettling with h | h <;> simp [ChannelEntry.settling, ChannelEntry.capture, h]
    rw [if_neg (by cases e.latest <;> simp [readingTaken, hdropped]), if_pos (by simp [hdropped, hslot])]
    exact ⟨rfl, rfl⟩
  · simp [hnone, hmeasuring, ChannelEntry.capture]

/-! Frames rejected and abandoned (R2, R3). -/

/-- R3: a completed frame that is no reading is counted, and its bytes are hunted on. -/
theorem checkReadingFrame_rejected (bytes : List Byte)
    (hbad : crc16 (f.take 6) ≠ field f 6 2 ∨ 15 < field f 1 1 ∨ analyserStatusOf (field f 2 1) = none) :
    checkReadingFrame f (setPartial bytes s) = countFrameError (setPartial
      (if crc16 (f.take 6) = field f 6 2 then [] else (f.drop 1).dropWhile (fun b => b != syncByte)) s) := by
  unfold checkReadingFrame
  by_cases hcheck : crc16 (f.take 6) = field f 6 2
  · rw [if_pos (by simpa using hcheck), if_pos hcheck]
    split
    case h_1 status hstatus =>
      have hchannel : ¬field f 1 1 ≤ 15 := by
        rcases hbad with h | h | h
        · exact absurd hcheck h
        · omega
        · cases hstatus.symm.trans h
      rw [if_neg hchannel]
      rfl
    case h_2 => rfl
  · rw [if_neg (by simpa using hcheck), if_neg hcheck]
    rfl

/-- Settles O6. -/
theorem rejectedAndAbandonedFramesAreCounted : Obligations.RejectedAndAbandonedFramesAreCounted := by
  refine ⟨fun f s hlen hsync hhunting hbad => ?_, fun s hpartial => ?_⟩
  · obtain ⟨bytes, hbytes⟩ := foldl_frame hlen hsync hhunting
    refine ⟨_, by rw [exec_eq_after, after, hbytes, checkReadingFrame_rejected _ hbad], ?_⟩
    exact ⟨rfl, rfl, rfl, rfl, rfl, rfl, rfl⟩
  · rw [exec_eq_after, after, if_neg (by simpa using hpartial)]
    rfl

end AnalyserLine

end Sys2Proof.Proofs

/-! The plant link (05): the choice of the queue head, the ends of an attempt, and the expiries. -/

namespace Sys2Proof.Proofs

open Sys2Proof.Machine Sys2Proof.Laws

section Sending

variable {s : State}

/-! The queue head (R92). -/

theorem zipIdx_increasing (q : List TxEntry) : q.zipIdx.Pairwise (fun a b => a.2 < b.2) := by
  rw [← List.pairwise_map (f := Prod.snd) (R := fun a b => a < b), List.zipIdx_map_snd]
  exact List.pairwise_lt_range'

theorem firstWaiting_none {q : List (TxEntry × Nat)} (h : firstWaiting q = none) : ∀ x ∈ q, x.1.sending = true := by
  induction q with
  | nil => exact fun x hx => absurd hx List.not_mem_nil
  | cons a rest ih =>
    unfold firstWaiting at h
    cases hrest : firstWaiting rest with
    | some b => rw [hrest] at h; cases hs : a.1.sending <;> simp [hs] at h
    | none =>
      rw [hrest] at h
      have hs : a.1.sending = true := by simpa using h
      rintro x (_ | ⟨_, hx⟩)
      · exact hs
      · exact ih hrest x hx

/-- R92: the first waiting entry comes no later than any other, by its kind code and then by its place. -/
theorem firstWaiting_some {q : List (TxEntry × Nat)} {b : TxEntry × Nat} (horder : q.Pairwise (fun a b => a.2 < b.2))
    (h : firstWaiting q = some b) : b ∈ q ∧ b.1.sending = false ∧ ∀ x ∈ q, x.1.sending = false →
      b.1.kind.code < x.1.kind.code ∨ (b.1.kind.code = x.1.kind.code ∧ b.2 ≤ x.2) := by
  induction q generalizing b with
  | nil => cases h
  | cons a rest ih =>
    obtain ⟨hfirst, hrest⟩ := List.pairwise_cons.mp horder
    unfold firstWaiting at h
    cases hwaiting : firstWaiting rest with
    | none =>
      rw [hwaiting] at h
      dsimp only at h
      split at h
      · cases h
      · obtain rfl := Option.some.inj h
        refine ⟨List.mem_cons_self .., by simpa using ‹¬a.1.sending = true›, ?_⟩
        rintro x (_ | ⟨_, hx⟩) hwaits
        · exact .inr ⟨rfl, le_rfl⟩
        · rw [firstWaiting_none hwaiting x hx] at hwaits
          cases hwaits
    | some c =>
      obtain ⟨hmem, hwaits, hleast⟩ := ih hrest hwaiting
      have hplace := hfirst c hmem
      rw [hwaiting] at h
      dsimp only at h
      split at h
      · obtain rfl := Option.some.inj h
        refine ⟨List.mem_cons_of_mem _ hmem, hwaits, ?_⟩
        rintro x (_ | ⟨_, hx⟩) hx'
        · simp_all
        · exact hleast x hx hx'
      · obtain rfl := Option.some.inj h
        unfold firstOf
        split
        case isTrue hlower =>
          refine ⟨List.mem_cons_of_mem _ hmem, hwaits, ?_⟩
          rintro x (_ | ⟨_, hx⟩) hx'
          · exact .inl hlower
          · exact hleast x hx hx'
        case isFalse hnot =>
          refine ⟨List.mem_cons_self .., by simpa using ‹¬a.1.sending = true›, ?_⟩
          rintro x (_ | ⟨_, hx⟩) hx'
          · exact .inr ⟨rfl, le_rfl⟩
          · have := hleast x hx hx'
            have := hfirst x hx
            omega

theorem updateAt_eq_set {α : Type} {l : List α} {n : Nat} {x : α} (f : α → α) (h : l[n]? = some x) :
    updateAt l n f = l.set n (f x) := by
  rw [updateAt, List.modify_eq_set_getElem?, h]
  rfl

/-- Settles O26. -/
theorem attemptCarriesTheQueueHead : Obligations.AttemptCarriesTheQueueHead := by
  intro s hnone hidle hwaiting
  cases hhead : firstWaiting s.link.queue.zipIdx with
  | none =>
    obtain ⟨e, he, hwaits⟩ := hwaiting
    obtain ⟨n, hn⟩ := List.mem_iff_getElem?.mp he
    cases (firstWaiting_none hhead (e, n) (List.mem_zipIdx_iff_getElem?.mpr hn)).symm.trans hwaits
  | some b =>
    obtain ⟨hmem, hwaits, hleast⟩ := firstWaiting_some (zipIdx_increasing _) hhead
    have hn := List.mem_zipIdx_iff_getElem?.mp hmem
    refine ⟨b.2, b.1, hn, hwaits, fun m x hm hx => hleast (x, m) (List.mem_zipIdx_iff_getElem?.mpr hm) hx, ?_⟩
    rw [exec_eq_after, after, beginAttempt, hnone, hidle, queueHead, hhead]
    dsimp only [Option.map_some]
    rw [updateAt_eq_set _ hn]
    rfl

/-! The ends of an attempt (R89, R90). -/

section Ends

variable {bits : Nat} {l r : List TxEntry} {e : TxEntry}

theorem superseded_iff (hq : s.link.queue = l ++ e :: r) (he : e.sending = true) (hl : ∀ x ∈ l, x.sending = false)
    (hr : ∀ x ∈ r, x.sending = false) (e' : TxEntry) :
    superseded s.link e' = true ↔ ∃ x ∈ l ++ r, x.replaces e' = true := by
  unfold superseded
  rw [hq, List.any_eq_true]
  constructor
  · rintro ⟨x, hx, hnew⟩
    obtain ⟨hwaits, hnew⟩ := by simpa using hnew
    refine ⟨x, ?_, hnew⟩
    simp only [List.mem_append, List.mem_cons] at hx ⊢
    rcases hx with hx | rfl | hx
    · exact .inl hx
    · cases he.symm.trans hwaits
    · exact .inr hx
  · rintro ⟨x, hx, hnew⟩
    rcases List.mem_append.mp hx with hx | hx
    · exact ⟨x, by simp [hx], by simp [hl x hx, hnew]⟩
    · exact ⟨x, by simp [hx], by simp [hr x hx, hnew]⟩

theorem exec_arbitrationLost (ha : s.link.attempt = some bits) (he : s.link.sendingEntry = some e) :
    exec .arbitrationLost s = .next (s.setLink (settleEntry e s.link)) := by
  rw [exec_eq_after, after, loseArbitration, ha, he]

/-- Settles O27. -/
theorem lostArbitrationReturnsTheEntry : Obligations.LostArbitrationReturnsTheEntry := by
  intro s bits l r e ha hq he hl hr
  have hend := fun kept => endAttempt_of_only kept hq he hl hr
  have hnewer := superseded_iff hq he hl hr e
  rw [exec_arbitrationLost ha (link_sendingEntry_of_only hq he hl)]
  unfold settleEntry
  refine ⟨fun hdue hnone => ?_, fun hdue hnew => ?_, fun hover => ?_⟩
  · have hnot : ¬superseded s.link e = true := fun h => by
      obtain ⟨x, hx, hnew⟩ := hnewer.mp h
      cases hnew.symm.trans (hnone x hx)
    rw [if_neg (by omega), if_neg hnot, hend]
    rfl
  · rw [if_neg (by omega), if_pos (hnewer.mpr hnew), hend]
    rfl
  · rw [if_pos hover, hend]
    rfl

/-- Settles O28. -/
theorem transmitErrorCountsAndDropsAtSixteen : Obligations.TransmitErrorCountsAndDropsAtSixteen := by
  intro s bits l r e ha hq he hl hr hdue hnone
  let k : Link := { s.link with transmitErrors := count16 s.link.transmitErrors 1 }
  let e' : TxEntry := { e with errors := e.errors + 1 }
  have hexec : exec .transmitError s =
      .next (setReceiver .waitIdle (s.setLink (if 16 ≤ e'.errors then dropAtSixteen e' k else settleEntry e' k))) := by
    rw [exec_eq_after, after, failAttempt, ha, link_sendingEntry_of_only hq he hl]
  have hend := fun kept => endAttempt_of_only (k := k) kept hq he hl hr
  have hnot : ¬superseded k e' = true := fun h => by
    obtain ⟨x, hx, hnew⟩ := (superseded_iff hq he hl hr e').mp h
    exact absurd (show x.replaces e = true from hnew) (by simp [hnone x hx])
  have hwithin : ¬e'.deadline ≤ k.deadlineTimer := Nat.not_le.mpr hdue
  rw [hexec]
  refine ⟨fun hfew => ?_, fun hmany => ?_⟩
  · rw [if_neg (by show ¬16 ≤ e.errors + 1; omega), settleEntry, if_neg hwithin, if_neg hnot, hend]
    rfl
  · rw [if_pos (by show 16 ≤ e.errors + 1; omega), dropAtSixteen, if_neg hnot]
    dsimp only
    rw [if_neg hwithin, endAttempt_of_only (k := { k with linkFault := true }) none hq he hl hr]
    rfl

end Ends

/-! Expiry (R96). -/

theorem earliestDeadline_none {q : List (TxEntry × Nat)} (h : earliestDeadline q = none) :
    ∀ x ∈ q, x.1.sending = true := by
  induction q with
  | nil => exact fun x hx => absurd hx List.not_mem_nil
  | cons a rest ih =>
    unfold earliestDeadline at h
    cases hrest : earliestDeadline rest with
    | some b => rw [hrest] at h; dsimp only at h; split at h <;> cases h
    | none =>
      rw [hrest] at h
      have hs : a.1.sending = true := by simpa using h
      rintro x (_ | ⟨_, hx⟩)
      · exact hs
      · exact ih hrest x hx

theorem earliestDeadline_some {q : List (TxEntry × Nat)} {b : TxEntry × Nat} (h : earliestDeadline q = some b) :
    b ∈ q ∧ b.1.sending = false ∧ ∀ x ∈ q, x.1.sending = false → b.1.deadline ≤ x.1.deadline := by
  induction q generalizing b with
  | nil => cases h
  | cons a rest ih =>
    unfold earliestDeadline at h
    cases hwaiting : earliestDeadline rest with
    | none =>
      rw [hwaiting] at h
      dsimp only at h
      split at h
      · cases h
      · obtain rfl := Option.some.inj h
        refine ⟨List.mem_cons_self .., by simpa using ‹¬a.1.sending = true›, ?_⟩
        rintro x (_ | ⟨_, hx⟩) hwaits
        · exact le_rfl
        · rw [earliestDeadline_none hwaiting x hx] at hwaits
          cases hwaits
    | some c =>
      obtain ⟨hmem, hwaits, hleast⟩ := ih hwaiting
      rw [hwaiting] at h
      dsimp only at h
      split at h
      case isTrue hlater =>
        obtain rfl := Option.some.inj h
        refine ⟨List.mem_cons_of_mem _ hmem, hwaits, ?_⟩
        rintro x (_ | ⟨_, hx⟩) hx'
        · have : c.1.deadline < a.1.deadline := by simpa [hx'] using hlater
          exact this.le
        · exact hleast x hx hx'
      case isFalse hnot =>
        obtain rfl := Option.some.inj h
        obtain ⟨hs, hearlier⟩ : a.1.sending = false ∧ a.1.deadline ≤ c.1.deadline := by simpa using hnot
        refine ⟨List.mem_cons_self .., hs, ?_⟩
        rintro x (_ | ⟨_, hx⟩) hx'
        · exact le_rfl
        · exact hearlier.trans (hleast x hx hx')

/-- Settles O30. -/
theorem waitingEntryExpires : Obligations.WaitingEntryExpires := by
  intro s hdue hwaiting
  cases hfirst : earliestDeadline s.link.queue.zipIdx with
  | none =>
    obtain ⟨e, he, hwaits⟩ := hwaiting
    obtain ⟨n, hn⟩ := List.mem_iff_getElem?.mp he
    cases (earliestDeadline_none hfirst (e, n) (List.mem_zipIdx_iff_getElem?.mpr hn)).symm.trans hwaits
  | some b =>
    obtain ⟨e, n⟩ := b
    obtain ⟨hmem, hwaits, hleast⟩ := earliestDeadline_some hfirst
    obtain ⟨hn, he⟩ := List.getElem?_eq_some_iff.mp (List.mem_zipIdx_iff_getElem?.mp hmem)
    have hearliest : ∀ x ∈ s.link.queue, x.sending = false → e.deadline ≤ x.deadline := fun x hx hx' => by
      obtain ⟨m, hm⟩ := List.mem_iff_getElem?.mp hx
      exact hleast (x, m) (List.mem_zipIdx_iff_getElem?.mpr hm) hx'
    have hqueue : s.link.queue = s.link.queue.take n ++ e :: s.link.queue.drop (n + 1) := by
      have he' : s.link.queue[n] = e := he
      rw [← he', List.getElem_cons_drop, List.take_append_drop]
    have hrest : s.link.queue.eraseIdx n = s.link.queue.take n ++ s.link.queue.drop (n + 1) :=
      List.eraseIdx_eq_take_drop_succ ..
    let u : State := s.setLink (countExpired e { s.link with queue := s.link.queue.eraseIdx n })
    have htimer : u.link.deadlineTimer + (e.deadline - s.now) = e.deadline := by
      have : s.link.deadlineTimer ≤ e.deadline := hdue e (by rw [hqueue]; simp) hwaits
      show s.link.deadlineTimer + (e.deadline - s.link.deadlineTimer) = e.deadline
      omega
    have hlater : ∀ x ∈ u.link.queue, x.sending = true ∨ e.deadline ≤ x.deadline := fun x hx => by
      cases hs : x.sending with
      | true => exact .inl rfl
      | false => exact .inr (hearliest x (List.mem_of_mem_eraseIdx hx) hs)
    have hnone : u.link.queue.filter (fun x => x.overdue e.deadline) = [] := by
      refine List.filter_eq_nil_iff.mpr fun x hx => ?_
      rcases hlater x hx with h | h <;> simp [TxEntry.overdue, h]
    have hcounts := elapse_expiries (e.deadline - s.now) u
    rw [htimer, hnone] at hcounts
    obtain ⟨hexpired, hmisses⟩ := hcounts
    refine ⟨elapse (e.deadline - s.now) u, _, _, e, ?_, hqueue, hwaits, hearliest, ?_, ?_, ?_, ?_, ?_⟩
    · rw [exec_eq_after, after, expireEntry, hfirst]
    · rw [(elapse_link _ u).1, htimer, List.filter_eq_self.mpr (by simpa using hlater)]
      exact hrest
    · rw [hexpired, List.length_nil]
      simp [u, countExpired, count16]
    · rw [hmisses, List.filter_nil, List.length_nil]
      simp [u, countExpired, count16]
    · simpa using htimer
    · simp only [elapse_link]
      exact ⟨rfl, rfl, rfl, rfl, rfl, rfl⟩

/-! A full queue (R95). -/

theorem countP_any_le {α : Type} (ps : List (α → Bool)) (q : List α) :
    q.countP (fun x => ps.any (fun p => p x)) ≤ (ps.map (fun p => q.countP p)).sum := by
  induction ps with
  | nil => simp
  | cons p ps ih =>
    have hsplit : q.countP (fun x => p x || ps.any (fun p => p x)) ≤
        q.countP p + q.countP (fun x => ps.any (fun p => p x)) := by
      clear ih
      induction q with
      | nil => simp
      | cons x xs ih => cases hp : p x <;> cases hps : ps.any (fun p => p x) <;> simp [hp, hps] <;> omega
    simpa using hsplit.trans (Nat.add_le_add_left ih _)

/-- Settles O33: of what is no waiting RESULT, a queue in order holds one in transmission at most, one MARK, one LOAD and
one reply to each of four terminals. -/
theorem fullQueueHoldsAWaitingResult : Obligations.FullQueueHoldsAWaitingResult := by
  intro s hsending hwaiting hregular hfull
  by_contra hnone
  obtain ⟨hmark, hload, hreply⟩ := hwaiting
  obtain ⟨hsole, -⟩ := hsending
  let reply (n : Nat) (e : TxEntry) : Bool := !e.sending && (e.kind.frameClass == .reply && e.terminal == some n)
  let ps : List (TxEntry → Bool) := [fun e => e.sending, fun e => !e.sending && e.kind == .mark,
    fun e => !e.sending && e.kind == .load, reply 12, reply 13, reply 14, reply 15]
  have hall : s.link.queue.countP (fun e => ps.any (fun p => p e)) = s.link.queue.length := by
    refine List.countP_eq_length.mpr fun e he => ?_
    cases hs : e.sending with
    | true => simp [ps, hs]
    | false =>
      have hresult : e.kind ≠ .result := fun hk => hnone ⟨e, he, hk, hs⟩
      rcases hregular e he with hk | ⟨hk, n, hn, hlow, hhigh⟩
      · cases hkind : e.kind <;> simp_all [ps, FrameKind.frameClass]
      · obtain rfl | rfl | rfl | rfl : n = 12 ∨ n = 13 ∨ n = 14 ∨ n = 15 := by omega
        all_goals simp [ps, reply, hs, hk, hn]
  have hcount := countP_any_le ps s.link.queue
  rw [hall] at hcount
  simp only [atMostOne, ← List.countP_eq_length_filter] at hmark hload hreply hsole
  have h12 := hreply 12
  have h13 := hreply 13
  have h14 := hreply 14
  have h15 := hreply 15
  simp only [ps, reply, List.map_cons, List.map_nil, List.sum_cons, List.sum_nil] at hcount
  omega

end Sending

end Sys2Proof.Proofs

/-! Requests and broadcasts handed to their owners (07, 09, 10, 11): what each block makes of the frame, and the reply. -/

namespace Sys2Proof.Proofs

open Sys2Proof.Machine Sys2Proof.Laws

section Requests

variable {s u : State} {k : FrameKind} {sender target : Byte} {payload : List Byte}

/-! A request answered at once (R168). -/

theorem offerAnswer_onlyLink (k : FrameKind) (terminal taken : Nat) (code : AnswerCode) (u : State) :
    offerAnswer k terminal taken code u = u.setLink (offerAnswer k terminal taken code u).link := by
  apply state_ext <;> simp

theorem offerReply_onlyLink (k : FrameKind) (terminal taken : Nat) (payload : List Byte) (u : State) :
    offerReply k terminal taken payload u = u.setLink (offerReply k terminal taken payload u).link := by
  apply state_ext <;> simp

/-- An owner that leaves the link alone has its answer offered to the link as the frame left it. -/
theorem offerAnswer_frameOver (k : FrameKind) (terminal : Nat) (code : AnswerCode) (hlink : u.link = s.frameOver.link)
    (hroom : s.link.queue.length < 8) : ∃ l, offerAnswer k terminal s.link.deadlineTimer code u = u.setLink l ∧
      (u.setLink l).answers s.frameOver.link k terminal code := by
  have hanswers := offerAnswer_answers k terminal code u (by rw [hlink]; exact hroom)
  have hnow : u.now = s.link.deadlineTimer := by rw [State.now, hlink]; rfl
  rw [hnow, hlink] at hanswers
  exact ⟨_, offerAnswer_onlyLink .., hanswers⟩

/-- A request served and answered at once: what its owner makes of the state, and the ANSWER. -/
theorem receiveRequest_answered (take : State → State × AnswerCode) (h : s.receives k sender target payload)
    (hs : s.serving) {code : AnswerCode} (htake : take s.frameOver = (u, code)) (hlink : u.link = s.frameOver.link)
    (hroom : s.link.queue.length < 8) :
    ∃ l, receiveRequest k sender target payload (fun s => answerWith k sender.toNat s.now (take s)) s = u.setLink l ∧
      (u.setLink l).answers s.frameOver.link k sender.toNat code := by
  rw [receiveRequest_serving h hs, htake]
  exact offerAnswer_frameOver k sender.toNat code hlink hroom

theorem terminal_bounds (hk : k.frameClass = .request) (h : s.receives k sender target payload) :
    12 ≤ sender.toNat ∧ sender.toNat ≤ 15 := by
  simpa [isTerminal] using receives_terminal hk h

theorem station_bounds (hk : k.frameClass = .broadcast) (h : s.receives k sender target payload) :
    1 ≤ sender.toNat ∧ sender.toNat ≤ 8 := by
  have hallowed := h.allowed
  simp only [frameAllowed, Bool.and_eq_true, senderAllowed, hk] at hallowed
  simpa [isStation] using hallowed.1.1

/-! CONFIGURE (R185). -/

/-- Settles O54. -/
theorem configureReplacesAPartOfTheEditImage : Obligations.ConfigureReplacesAPartOfTheEditImage := by
  intro sender target payload part s h hsetup hpending hpart hroom
  have htake : takeConfigureBytes payload s.frameOver =
      if partInRange s.ctrl.station part then
        (s.frameOver.setCtrl { s.ctrl with edit := applyPart s.ctrl.edit part }, .done)
      else (s.frameOver, .range) := by
    simp [takeConfigureBytes, hpart, takeConfigure, hsetup, hpending]
  rw [exec_eq_after, after]
  cases hrange : partInRange s.ctrl.station part with
  | true =>
    rw [hrange, if_pos rfl] at htake
    obtain ⟨l, heq, hanswers⟩ := receiveRequest_answered (takeConfigureBytes payload) h (.inl hsetup) htake rfl hroom
    exact ⟨_, congrArg _ heq, rfl, fun _ => ⟨rfl, hanswers⟩, nofun⟩
  | false =>
    rw [hrange, if_neg Bool.false_ne_true] at htake
    obtain ⟨l, heq, hanswers⟩ := receiveRequest_answered (takeConfigureBytes payload) h (.inl hsetup) htake rfl hroom
    exact ⟨_, congrArg _ heq, rfl, nofun, fun _ => ⟨rfl, hanswers⟩⟩

/-! START (R187, R188). -/

/-- Settles O55. -/
theorem startBecomesPending : Obligations.StartBecomesPending := by
  intro sender target payload s h hsetup hpending hdeferred
  have hexec : exec (.start sender target payload) s = .next (takeStartRequest sender.toNat s.frameOver) := by
    rw [exec_eq_after, after, receiveRequest_serving h (.inl hsetup)]
  have htake : takeStart sender.toNat s.link.deadlineTimer s.frameOver =
      if startAllowed s.ctrl.edit then (beginStart sender.toNat s.link.deadlineTimer s.frameOver, none)
      else (s.frameOver, some .condition) := by
    simp [takeStart, hsetup, hpending]
  rw [hexec, takeStartRequest, show s.frameOver.now = s.link.deadlineTimer from rfl, htake]
  refine ⟨fun hallowed => ?_, fun hfails hroom => ?_⟩
  · obtain ⟨hlow, hhigh⟩ := terminal_bounds rfl h
    rw [if_pos hallowed]
    refine ⟨_, _, rfl, rfl, rfl, rfl, rfl, fun hnone => ?_, fun q hq hlast => ?_, ?_, rfl⟩
    · show nextConfigSequence s.store.configSequence = 1
      rw [hnone]
      rfl
    · show nextConfigSequence s.store.configSequence = q + 1
      rw [hq]
      exact if_pos hlast
    · show (s.readout.deferred.set (sender.toNat - 12) (some s.link.deadlineTimer))[sender.toNat - 12]? = _
      rw [List.getElem?_set_self (by omega)]
  · rw [hfails, if_neg Bool.false_ne_true]
    obtain ⟨l, heq, hanswers⟩ := offerAnswer_frameOver (u := s.frameOver) .start sender.toNat .condition rfl hroom
    exact ⟨_, congrArg _ heq, hanswers, rfl⟩

/-! RELEASE (R75). -/

theorem offerOwn_of_room (r : SlotImage) (h : s.ownRoom) :
    offerOwn r s = s.setStore { s.store with ownQueue := s.store.ownQueue ++ [r] } := by
  obtain ⟨hstore, hlen⟩ := h
  simp [offerOwn, hstore, hlen]

/-- Settles O53. -/
theorem releaseEndsACutoffAtRest : Obligations.ReleaseEndsACutoffAtRest := by
  intro sender target payload s h hs hroom
  rw [exec_eq_after, after]
  refine ⟨fun cause hcutoff hfire hclean htrip hown => ?_, fun hnot => ?_⟩
  · let v : State := setMachine .normal (s.frameOver.setPlant { s.plant with continuous := 0 })
    let notice : SlotImage := noticeSlot v .release (be 1 sender.toNat ++ be 1 cause.toCause.code ++
      be 2 s.plant.continuous ++ be 2 s.plant.yearCount)
    have hnotice : offerOwn notice v = v.setStore { v.store with ownQueue := v.store.ownQueue ++ [notice] } :=
      offerOwn_of_room notice hown
    have htake : takeRelease sender.toNat s.frameOver =
        (v.setStore { v.store with ownQueue := v.store.ownQueue ++ [notice] }, .done) := by
      rw [← hnotice]
      simp [takeRelease, hcutoff, hfire, hclean, htrip, offerNotice, v, notice]
    obtain ⟨l, heq, hanswers⟩ := receiveRequest_answered (takeRelease sender.toNat) h hs htake rfl hroom
    exact ⟨_, congrArg _ heq, rfl, rfl, hanswers, rfl⟩
  · have htake : takeRelease sender.toNat s.frameOver = (s.frameOver, .condition) := by
      unfold takeRelease
      rw [(frameOver_frame s).2.2.2.1]
      split
      case h_1 cause hcutoff =>
        have hline : (s.plant.fire || s.plant.clean || s.plant.trip) = true := by
          rw [hcutoff] at hnot
          rcases hnot with hnot | hfire | hclean | htrip
          · cases hnot
          · simp [hfire]
          · simp [hclean]
          · simp [htrip]
        rw [if_pos hline]
      case h_2 => rfl
      case h_3 => rfl
    obtain ⟨l, heq, hanswers⟩ := receiveRequest_answered (takeRelease sender.toNat) h hs htake rfl hroom
    exact ⟨_, congrArg _ heq, hanswers, rfl⟩

/-! Windows (R170, R171). -/

theorem setWindow_window_self {r : Readout} {n : Nat} (w : Option Window) (hn : n - 12 < r.windows.length) :
    (r.setWindow n w).window n = w := by
  simp [Readout.window, Readout.setWindow, List.getD_eq_getElem?_getD, hn]

theorem setWindow_window_of_ne {r : Readout} {n m : Nat} (w : Option Window) (hn : 12 ≤ n) (hm : 12 ≤ m) (hne : m ≠ n) :
    (r.setWindow n w).window m = r.window m := by
  have hplace : n - 12 ≠ m - 12 := by omega
  simp [Readout.window, Readout.setWindow, List.getD_eq_getElem?_getD, hplace]

/-- Settles O50. -/
theorem windowIsReplacedWhenDone : Obligations.WindowIsReplacedWhenDone := by
  intro sender target payload f s h hs hfields hdone hroom hwindows
  obtain ⟨hlow, hhigh⟩ := terminal_bounds rfl h
  let r : Readout := s.readout.setWindow sender.toNat (some (newWindow f s.readout.serial))
  have hdone' : windowAnswer f s.frameOver = .done := hdone
  have htake : takeWindow sender.toNat payload s.frameOver =
      (s.frameOver.setReadout { r with serial := r.serial + 1 }, .done) := by
    simp [takeWindow, hfields, hdone', r]
  obtain ⟨l, heq, hanswers⟩ := receiveRequest_answered (takeWindow sender.toNat payload) h hs htake rfl hroom
  refine ⟨_, newWindow f s.readout.serial, by rw [exec_eq_after, after]; exact congrArg _ heq, ?_, rfl, rfl, rfl, rfl, rfl,
    rfl, rfl, rfl, rfl, rfl, rfl, ?_, ?_, ?_, ?_, fun n hn hne => ?_, hanswers, rfl⟩
  · exact setWindow_window_self _ (by omega)
  · show startId f.direction f.first f.last = _
    cases f.direction <;> rfl
  · show _ → startSub f.kind f.firstComponent = _
    rintro (hk | hk) <;> rw [hk] <;> rfl
  · show _ → startSub f.kind f.firstComponent = _
    intro hk
    rw [hk]
    rfl
  · show _ → startSub f.kind f.firstComponent = _
    intro hk
    rw [hk]
    rfl
  · exact setWindow_window_of_ne _ hlow hn hne

/-! STATUS_REQ (R169). -/

@[simp] theorem be_length (len n : Nat) : (be len n).length = len := by
  induction len with
  | zero => rfl
  | succ len ih => simp [be, ih]

theorem timeBytes_length (t : Option StationTime) : (timeBytes t).length = 6 := by
  cases t <;> simp [timeBytes]

/-- R197: the common part of a status reply is 15 bytes, of which the section comes seventh. -/
theorem statusCommon_length (sec : StatusSection) (s : State) : (statusCommon sec s).length = 15 := by
  simp [statusCommon, timeBytes_length]

theorem receiveRequest_statusReq (h : s.receives .statusReq sender target payload) (serve : State → State) :
    receiveRequest .statusReq sender target payload serve s = serve s.frameOver := by
  have hgate : gate .statusReq sender.toNat serve s.frameOver = serve s.frameOver := by
    unfold gate
    rw [(frameOver_frame s).2.2.2.2.2.2.2.2.2.1]
    cases s.ctrl.state <;> rfl
  rw [receiveRequest, receiveKind_receives h (fun _ => by decide), hgate]

/-- Settles O49. -/
theorem statusIsServedInEveryState : Obligations.StatusIsServedInEveryState := by
  intro sender target payload sec s h hsection hroom
  have hexec : exec (.statusReq sender target payload) s =
      .next (offerReply .statusReply sender.toNat s.link.deadlineTimer (statusPayload sec s) s.frameOver) := by
    rw [exec_eq_after, after, receiveRequest_statusReq h, takeStatus, hsection]
    cases sec <;> rfl
  refine ⟨_, _, hexec, ?_, offerReply_replies _ _ _ _ s.frameOver rfl rfl hroom (Nat.le_add_right ..), rfl, ?_, ?_⟩
  · rw [offerReply_onlyLink]
    rfl
  · simp [statusPayload, statusCommon, State.station]
  · rintro rfl
    rw [statusPayload, List.drop_left' (statusCommon_length _ _)]
    exact List.take_left' (by simp)

/-! LOAD (R118). -/

theorem setEntry_entry_self {v : ShareUnit} {n : Nat} (e : Option ShareEntry) (hn : n - 1 < v.entries.length) :
    (v.setEntry n e).entry n = e := by
  simp [ShareUnit.entry, ShareUnit.setEntry, List.getD_eq_getElem?_getD, hn]

theorem setEntry_entry_of_ne {v : ShareUnit} {n m : Nat} (e : Option ShareEntry) (hn : 1 ≤ n) (hm : 1 ≤ m) (hne : m ≠ n) :
    (v.setEntry n e).entry m = v.entry m := by
  have hplace : n - 1 ≠ m - 1 := by omega
  simp [ShareUnit.entry, ShareUnit.setEntry, List.getD_eq_getElem?_getD, hplace]

/-- Settles O37. -/
theorem loadReportIsTakenByTheSendersEntry : Obligations.LoadReportIsTakenByTheSendersEntry := by
  intro sender target payload r s h hstate hreport hgroup hsize
  obtain ⟨hlow, hhigh⟩ := station_bounds rfl h
  have hmatch : s.frameOver.config?.all (fun m => m.stackGroup == (loadFields payload).group) = true := by
    rw [(frameOver_views s).2.1]
    cases hc : s.config? with
    | none => rfl
    | some m => simp [hgroup m hc]
  have hexec : exec (.load sender target payload) s = .next (s.frameOver.setShare (s.share.setEntry sender.toNat
      (takeReport (loadFields payload).group r (s.share.entry sender.toNat)))) := by
    rw [exec_eq_after, after, receiveKind_receives h (fun hf => absurd hf hstate), takeLoad, hreport]
    dsimp only
    rw [if_pos hmatch]
    rfl
  have hself := setEntry_entry_self (v := s.share) (n := sender.toNat)
    (takeReport (loadFields payload).group r (s.share.entry sender.toNat)) (by omega)
  refine ⟨_, hexec, fun hnone => hself.trans (by rw [hnone]; rfl), fun e he hlater => hself.trans ?_,
    fun e he hnot => hself.trans ?_, fun n hn hne => setEntry_entry_of_ne _ hlow hn hne, rfl, rfl, rfl⟩
  · rw [he]
    exact if_pos hlater
  · rw [he]
    exact if_neg (Nat.not_lt.mpr hnot)

/-! RESULT (R160 to R162). -/

theorem updateAt_origin_self {m : Mirror} {n : Nat} (f : OriginEntry → OriginEntry) (hn : n - 1 < m.origins.length) :
    Mirror.origin { m with origins := updateAt m.origins (n - 1) f } n = f (m.origin n) := by
  simp [Mirror.origin, updateAt, List.getD_eq_getElem?_getD, hn]

theorem updateAt_origin_of_ne {m : Mirror} {n i : Nat} (f : OriginEntry → OriginEntry) (hn : 1 ≤ n) (hi : 1 ≤ i)
    (hne : i ≠ n) : Mirror.origin { m with origins := updateAt m.origins (n - 1) f } i = m.origin i := by
  have hplace : n - 1 ≠ i - 1 := by omega
  simp [Mirror.origin, updateAt, List.getD_eq_getElem?_getD, hplace]

/-- R161, R162: what becomes of the origin entry and of the record. -/
theorem takeResult_new {n : Nat} {r : SlotImage} (hs : s.serving) (hcontent : resultContentOk n r = true)
    (hpartner : s.config.partners.contains n = true)
    (hnew : newRecord (s.mirror.origin n) r.kind (mirrorId r) = true) :
    takeResult n r s = offerMirror r (s.setMirror { s.mirror with
      origins := updateAt s.mirror.origins (n - 1) (fun e => e.advance r.kind (mirrorId r)) }) := by
  have hscan : s.ctrl.state ≠ .scan := by rcases hs with h | h | h <;> rw [h] <;> decide
  unfold takeResult
  rw [if_neg hscan, if_neg (by simp [hcontent]), if_neg (by simpa using hpartner)]
  dsimp only
  rw [if_neg (by simp [hnew])]

/-- R158: a content check that passes names a kind of record that is mirrored, and the sender as its origin. -/
theorem resultContentOk_spec {n : Nat} {r : SlotImage} (h : resultContentOk n r = true) : r.origin = n ∧
    (r.kind = some .interval ∨ r.kind = some .day ∨ r.kind = some .year1 ∨ r.kind = some .year2) := by
  simp only [resultContentOk, Bool.and_eq_true, beq_iff_eq] at h
  obtain ⟨⟨-, horigin⟩, hkind⟩ := h
  refine ⟨horigin, ?_⟩
  split at hkind <;> simp_all

theorem lastOf_setLast (e : OriginEntry) {k : Option SlotKind} (i : Id)
    (hk : k = some .interval ∨ k = some .day ∨ k = some .year1 ∨ k = some .year2) :
    (e.setLast k i).lastOf k = some i := by
  rcases hk with rfl | rfl | rfl | rfl <;> rfl

/-- The gap count does not enter the last ids. -/
theorem lastOf_gap (e : OriginEntry) (k : Option SlotKind) (g : Nat) : OriginEntry.lastOf { e with gap := g } k = e.lastOf k := by
  unfold OriginEntry.lastOf
  split <;> rfl

/-- Settles O40. -/
theorem partnerResultIsQueuedForMirroring : Obligations.PartnerResultIsQueuedForMirroring := by
  intro sender target payload s h hs hcontent hpartner hnew hsize
  obtain ⟨hlow, hhigh⟩ := station_bounds rfl h
  obtain ⟨horigin, hkind⟩ := resultContentOk_spec hcontent
  generalize hr : resultSlot payload = r at hcontent hnew horigin hkind
  let e : OriginEntry := s.mirror.origin sender.toNat
  let m : Mirror := { s.mirror with
    origins := updateAt s.mirror.origins (sender.toNat - 1) (fun e => e.advance r.kind (mirrorId r)) }
  have hself : m.origin sender.toNat = e.advance r.kind (mirrorId r) := updateAt_origin_self _ (by omega)
  have hother : ∀ n, 1 ≤ n → n ≠ sender.toNat → m.origin n = s.mirror.origin n := fun n hn hne =>
    updateAt_origin_of_ne _ hlow hn hne
  have hlast : (e.advance r.kind (mirrorId r)).lastOf r.kind = some (mirrorId r) :=
    (lastOf_gap ..).trans (lastOf_setLast _ _ hkind)
  have hgapNone : e.lastOf r.kind = none → (e.advance r.kind (mirrorId r)).gap = min e.gap 65535 := fun hnone => by
    simp [OriginEntry.advance, hnone, count16]
  have hgapSome : ∀ l, e.lastOf r.kind = some l → (e.advance r.kind (mirrorId r)).gap =
      min (e.gap + skipped r.kind l (mirrorId r)) 65535 := fun l hl => by
    simp [OriginEntry.advance, hl, count16]
  have hexec : exec (.result sender target payload) s = .next (offerMirror r (s.frameOver.setMirror m)) := by
    rw [exec_eq_after, after, receiveKind_receives h (by rcases hs with hs | hs | hs <;> simp [hs]), hr,
      takeResult_new (s := s.frameOver) hs hcontent hpartner hnew]
    rfl
  rw [hexec]
  unfold offerMirror
  by_cases hroom : s.store.mirrorStalled = false ∧ s.store.mirrorQueue.length < 8
  · rw [if_neg (by simpa using hroom)]
    refine ⟨_, rfl, ?_, hother, fun _ _ => ⟨rfl, fun hnone => ?_, fun l hl => ?_⟩, fun hfull => ?_, rfl⟩
    · exact (congrArg (fun e => OriginEntry.lastOf e r.kind) hself).trans hlast
    · exact (congrArg OriginEntry.gap hself).trans (hgapNone hnone)
    · exact (congrArg OriginEntry.gap hself).trans (hgapSome l hl)
    · rcases hfull with hstalled | hfull
      · cases hstalled.symm.trans hroom.1
      · omega
  · rw [if_pos (by by_contra hnot; exact hroom (by simpa using hnot))]
    let m' : Mirror := { m with
      origins := updateAt m.origins (r.origin - 1) (fun e => { e with gap := count16 e.gap 1 }) }
    have hdropped : m'.origin sender.toNat =
        { e.advance r.kind (mirrorId r) with gap := count16 (e.advance r.kind (mirrorId r)).gap 1 } := by
      rw [← hself, ← horigin]
      exact updateAt_origin_self _ (by simp [m, updateAt, horigin]; omega)
    refine ⟨_, rfl, ?_, fun n hn hne => ?_, fun hstalled hlen => absurd ⟨hstalled, hlen⟩ hroom,
      fun _ => ⟨rfl, fun hnone => ?_, fun l hl => ?_⟩, rfl⟩
    · refine (congrArg (fun e => OriginEntry.lastOf e r.kind) hdropped).trans ?_
      exact (lastOf_gap ..).trans hlast
    · refine Eq.trans ?_ (hother n hn hne)
      exact updateAt_origin_of_ne _ (by omega) hn (by omega)
    · refine (congrArg OriginEntry.gap hdropped).trans ?_
      show count16 (e.advance r.kind (mirrorId r)).gap 1 = min (e.gap + 1) 65535
      rw [hgapNone hnone, count16]
      omega
    · refine (congrArg OriginEntry.gap hdropped).trans ?_
      rw [hgapSome l hl]
      rfl

end Requests

end Sys2Proof.Proofs

/-! The plant signals (04): the edges of the input lines, and the untimed minute. -/

namespace Sys2Proof.Proofs

open Sys2Proof.Machine Sys2Proof.Laws

section Signals

variable {s : State}

/-! An edge in a state in which the machine acts (R64). -/

/-- The state an edge is taken in: its level held and its flags set, and a FIRE assertion noted. -/
def edgeTaken (line : InputLine) (active : Bool) (s : State) : State :=
  let s := s.setPlant (edgeFlags line active (setLevel line active s.plant))
  if line = .fire && active then s.setShare { s.share with fireSeen := true } else s

theorem exec_inputEdge {line : InputLine} {active : Bool} (hlevel : s.plant.level line = !active) :
    exec (.inputEdge line active) s = .next (takeEdge line active s) := by
  rw [exec_eq_after, after, if_neg (by cases active <;> simp [hlevel])]

theorem takeEdge_serving (line : InputLine) (active : Bool) (hs : s.serving) :
    takeEdge line active s = edgeMachine line active (edgeTaken line active s) := by
  have hstate : (edgeTaken line active s).ctrl.state = s.ctrl.state := by
    unfold edgeTaken
    dsimp only
    split <;> rfl
  have hacts : ¬(decide ((edgeTaken line active s).ctrl.state = .scan) ||
      decide ((edgeTaken line active s).ctrl.state = .failed)) = true := by
    rw [hstate]
    rcases hs with h | h | h <;> rw [h] <;> decide
  exact if_neg hacts

/-! Entries into CUTOFF (R73). -/

theorem linesAgree_enterCutoff (cause : CutoffCause) (s : State) : (enterCutoff cause s).linesAgree := by
  let v : State := setMachine (.cutoff cause) s
  let u : State := offerNotice .cutoff (be 1 cause.toCause.code ++ be 2 v.plant.continuous ++ be 2 v.plant.yearCount ++
    be 1 (levelsByte v.plant)) v
  have hoffered : u.linesAgree := linesAgree_offerOwn _ (linesAgree_driveOutputs _)
  have hsummary : enterCutoff cause s = reportToSummary (fun y => { y with cutoffs := y.cutoffs + 1 }) u := rfl
  rw [hsummary]
  exact linesAgree_congr hoffered (by simp) (by simp) (by simp) (by simp) (by simp)

theorem enterCutoff_machine (cause : CutoffCause) (s : State) : (enterCutoff cause s).plant.machine = .cutoff cause := by
  simp [enterCutoff, setMachine]

theorem permit_of_cutoff {cause : CutoffCause} (hlines : s.linesAgree) (hmachine : s.plant.machine = .cutoff cause) :
    s.plant.permit = false := by
  obtain ⟨hpermit, -⟩ := hlines
  rw [hpermit, hmachine]
  rfl

/-- Settles O18. -/
theorem tripTakesTheMachineToCutoff : Obligations.TripTakesTheMachineToCutoff := by
  intro s hs hmachine htrip
  rw [exec_inputEdge (line := .trip) (active := true) htrip, takeEdge_serving _ _ hs]
  let v : State := edgeTaken .trip true s
  have hentered : ∃ u : State, edgeMachine .trip true v = enterCutoff .trip u ∧ u.plant.continuous = s.plant.continuous ∧
      u.plant.yearCount = s.plant.yearCount ∧ u.plant.operating = s.plant.operating ∧ u.plant.trip = true ∧
      u.plant.abnormalFlag = s.plant.abnormalFlag ∧ u.store.die = s.store.die ∧
      u = { s with plant := u.plant, store := u.store } := by
    unfold edgeMachine
    rw [show v.plant.machine = s.plant.machine from rfl]
    cases hnow : s.plant.machine with
    | cutoff cause => rw [hnow] at hmachine; cases hmachine
    | normal => exact ⟨v, rfl, rfl, rfl, rfl, rfl, rfl, rfl, rfl⟩
    | abnormal =>
      refine ⟨offerAbnEnd .trip v.plant.continuous v, rfl, ?_⟩
      simp only [offerAbnEnd_plantFields, offerAbnEnd_dieKept]
      refine ⟨rfl, rfl, rfl, rfl, rfl, rfl, ?_⟩
      apply state_ext <;> simp [v, edgeTaken]
  obtain ⟨u, heq, hcontinuous, hyear, hoperating, htripped, hflag, hdie, hframe⟩ := hentered
  rw [heq]
  refine ⟨_, rfl, enterCutoff_machine _ _, by simpa using htripped,
    permit_of_cutoff (linesAgree_enterCutoff _ _) (enterCutoff_machine _ _), by simpa using hcontinuous,
    by simpa using hyear, by simpa using hoperating, by simpa using hflag, ?_, by simpa using hdie⟩
  apply state_ext <;> simp <;> rw [hframe]

/-! Episodes (R69, R70). -/

/-- R71: the limits in force. -/
theorem abnormalLimits_eq (s : State) : abnormalLimits s =
    ((s.config?.map (fun m => m.continuousLimit)).getD 240, (s.config?.map (fun m => m.yearBudget)).getD 3600) := by
  unfold abnormalLimits
  cases s.config? <;> rfl

theorem checkLimits_within (hcontinuous : s.plant.continuous < (s.config?.map (fun m => m.continuousLimit)).getD 240)
    (hyear : s.plant.yearCount < (s.config?.map (fun m => m.yearBudget)).getD 3600) : checkLimits s = s := by
  unfold checkLimits reachedLimit
  rw [abnormalLimits_eq]
  dsimp only
  rw [if_neg (Nat.not_le.mpr hcontinuous), if_neg (Nat.not_le.mpr hyear)]

theorem reportToSummary_episodes (s : State) : ∃ n, reportToSummary (fun y => { y with episodes := y.episodes + 1 }) s =
    s.setPeriod { s.period with summary := { s.period.summary with episodes := n } } := by
  unfold reportToSummary
  split
  · split
    · exact ⟨_, rfl⟩
    · exact ⟨s.period.summary.episodes, rfl⟩
  · exact ⟨s.period.summary.episodes, rfl⟩

/-- R70: an episode begins in the minute flags, the machine, the notice and the summary; the limits are not reached. -/
theorem enterAbnormal_within (cause : Cause) (hroom : s.ownRoom)
    (hlimit : 0 < (s.config?.map (fun m => m.continuousLimit)).getD 240)
    (hyear : s.plant.yearCount < (s.config?.map (fun m => m.yearBudget)).getD 3600) :
    ∃ n, enterAbnormal cause 0 s = ((setMachine .abnormal (s.setPlant { s.plant with
        continuous := 0, abnormalFlag := true })).setStore { s.store with ownQueue := s.store.ownQueue ++
          [makeSlot .notice (noticeData s.ctrl.station s.clock.time .abnBegin [BitVec.ofNat 8 cause.code, 0, 0])] }).setPeriod
        { s.period with summary := { s.period.summary with episodes := n } } := by
  let v : State := setMachine .abnormal (s.setPlant { s.plant with continuous := 0, abnormalFlag := true })
  have hnotice : offerNotice .abnBegin (be 1 cause.code ++ be 2 0) v = v.setStore { s.store with ownQueue := s.store.ownQueue ++
      [makeSlot .notice (noticeData s.ctrl.station s.clock.time .abnBegin [BitVec.ofNat 8 cause.code, 0, 0])] } := by
    rw [be_one]
    exact offerOwn_of_room (s := v) _ hroom
  obtain ⟨n, hn⟩ := reportToSummary_episodes (offerNotice .abnBegin (be 1 cause.code ++ be 2 0) v)
  refine ⟨n, ?_⟩
  have hwhole : enterAbnormal cause 0 s =
      checkLimits (reportToSummary (fun y => { y with episodes := y.episodes + 1 })
        (offerNotice .abnBegin (be 1 cause.code ++ be 2 0) v)) := rfl
  rw [hwhole, hn, hnotice]
  exact checkLimits_within hlimit hyear

/-- R69: an episode ends in the machine and the notice alone. -/
theorem endEpisode_room (cause : Cause) (hroom : s.ownRoom) : endEpisode cause s =
    (setMachine .normal s).setStore { s.store with ownQueue := s.store.ownQueue ++ [makeSlot .notice
      (noticeData s.ctrl.station s.clock.time .abnEnd (be 1 cause.code ++ be 2 s.plant.continuous))] } :=
  offerOwn_of_room (s := setMachine .normal s) _ hroom

theorem isCutoff_iff {m : AbnormalMachine} : m.isCutoff = true ↔ ∃ cause, m = .cutoff cause := by
  cases m <;> simp [AbnormalMachine.isCutoff]

/-- R68, R74: a FIRE or CLEAN assertion that begins no episode leaves the machine as it is. -/
theorem takeEdge_assertion {line : InputLine} (hline : line = .fire ∨ line = .clean)
    (hquiet : s.plant.machine.isCutoff = true ∨
      (s.plant.machine = .normal ∧ (if line = .fire then s.plant.clean else s.plant.fire) = false)) :
    takeEdge line true s = edgeTaken line true s := by
  have hmachine : edgeMachine line true (edgeTaken line true s) = edgeTaken line true s := by
    rcases hline with rfl | rfl
    · rcases hquiet with hcutoff | ⟨hnormal, hclean⟩
      · obtain ⟨cause, hcause⟩ := isCutoff_iff.mp hcutoff
        exact edgeMachine_cutoff .fire true (by simp [edgeTaken, edgeFlags, setLevel]; split <;> exact hcause)
      · simp_all [edgeMachine, edgeTaken, edgeFlags, setLevel, AbnormalMachine.isCutoff]
    · rcases hquiet with hcutoff | ⟨hnormal, hfire⟩
      · obtain ⟨cause, hcause⟩ := isCutoff_iff.mp hcutoff
        exact edgeMachine_cutoff .clean true (by simp [edgeTaken, edgeFlags, setLevel]; split <;> exact hcause)
      · simp_all [edgeMachine, edgeTaken, edgeFlags, setLevel, AbnormalMachine.isCutoff]
  show (if _ then edgeTaken line true s else edgeMachine line true (edgeTaken line true s)) = _
  rw [hmachine, ite_self]

theorem edgeTaken_clean_normal (hmachine : s.plant.machine = .normal) :
    edgeTaken .clean true s = s.setPlant { s.plant with clean := true } := by
  simp [edgeTaken, edgeFlags, setLevel, hmachine, AbnormalMachine.isCutoff]

theorem edgeTaken_fire_normal (hmachine : s.plant.machine = .normal) :
    edgeTaken .fire true s = (s.setPlant { s.plant with fire := true }).setShare { s.share with fireSeen := true } := by
  simp [edgeTaken, edgeFlags, setLevel, hmachine, AbnormalMachine.isCutoff]

/-- Settles O17. -/
theorem cleanBeginsAndEndsAnEpisode : Obligations.CleanBeginsAndEndsAnEpisode := by
  refine ⟨fun s hs hmachine hfire hclean hroom hlimit hyear => ?_, fun s hs hmachine hclean hroom => ?_,
    fun s hs hmachine hclean hfire hroom hlimit hyear => ?_, fun s hs hmachine hfire hroom => ?_,
    fun s hfire hquiet => ?_, fun s hclean hquiet => ?_, fun s active hfeed => ?_⟩
  · obtain ⟨n, hn⟩ := enterAbnormal_within (s := edgeTaken .clean true s) .clean (by rwa [edgeTaken_clean_normal hmachine])
      (by rwa [edgeTaken_clean_normal hmachine]) (by rwa [edgeTaken_clean_normal hmachine])
    have hmachine' : edgeMachine .clean true (edgeTaken .clean true s) = enterAbnormal .clean 0 (edgeTaken .clean true s) := by
      simp [edgeMachine, edgeTaken_clean_normal hmachine, hmachine, hfire]
    rw [exec_inputEdge (line := .clean) (active := true) hclean, takeEdge_serving _ _ hs, hmachine', hn,
      edgeTaken_clean_normal hmachine]
    exact ⟨_, rfl, rfl, rfl, rfl, rfl⟩
  · have hmachine' : edgeMachine .clean false (edgeTaken .clean false s) = endEpisode .clean (edgeTaken .clean false s) := by
      simp [edgeMachine, edgeTaken, edgeFlags, setLevel, hmachine]
    rw [exec_inputEdge (line := .clean) (active := false) hclean, takeEdge_serving _ _ hs, hmachine', endEpisode_room (s := edgeTaken .clean false s) _ hroom]
    exact ⟨_, rfl, rfl, rfl, rfl, rfl, rfl, rfl, rfl⟩
  · obtain ⟨n, hn⟩ := enterAbnormal_within (s := edgeTaken .fire true s) .fire (by rwa [edgeTaken_fire_normal hmachine])
      (by rwa [edgeTaken_fire_normal hmachine]) (by rwa [edgeTaken_fire_normal hmachine])
    have hmachine' : edgeMachine .fire true (edgeTaken .fire true s) = enterAbnormal .fire 0 (edgeTaken .fire true s) := by
      simp [edgeMachine, edgeTaken_fire_normal hmachine, hmachine, hclean]
    rw [exec_inputEdge (line := .fire) (active := true) hfire, takeEdge_serving _ _ hs, hmachine', hn,
      edgeTaken_fire_normal hmachine]
    exact ⟨_, rfl, rfl, rfl, rfl, rfl⟩
  · have hmachine' : edgeMachine .fire false (edgeTaken .fire false s) = endEpisode .fire (edgeTaken .fire false s) := by
      simp [edgeMachine, edgeTaken, edgeFlags, setLevel, hmachine]
    rw [exec_inputEdge (line := .fire) (active := false) hfire, takeEdge_serving _ _ hs, hmachine', endEpisode_room (s := edgeTaken .fire false s) _ hroom]
    exact ⟨_, rfl, rfl, rfl, rfl, rfl, rfl, rfl, rfl⟩
  · rw [exec_inputEdge (line := .fire) (active := true) hfire, takeEdge_assertion (.inl rfl) (by simpa using hquiet)]
    cases hc : s.plant.machine.isCutoff <;> cases hl : s.plant.clean <;>
      simp [edgeTaken, edgeFlags, setLevel, hc, hl, State.setPlant, State.setShare]
  · rw [exec_inputEdge (line := .clean) (active := true) hclean, takeEdge_assertion (.inr rfl) (by simpa using hquiet)]
    cases hc : s.plant.machine.isCutoff <;> cases hl : s.plant.fire <;>
      simp [edgeTaken, edgeFlags, setLevel, hc, hl, State.setPlant]
  · have hquiet : edgeMachine .feed active (edgeTaken .feed active s) = edgeTaken .feed active s := by
      unfold edgeMachine
      cases (edgeTaken .feed active s).plant.machine <;> rfl
    have htaken : takeEdge .feed active s = edgeTaken .feed active s := by
      show (if _ then edgeTaken .feed active s else edgeMachine .feed active (edgeTaken .feed active s)) = _
      rw [hquiet, ite_self]
    rw [exec_inputEdge (line := .feed) (active := active) hfeed, htaken]
    cases active <;> simp [edgeTaken, edgeFlags, setLevel, State.setPlant]

/-! The untimed minute (R67, R71). -/

/-- The plant signal unit with the closing minute in the year count (R71). -/
def yearCounted (p : Plant) : Plant := { p with yearCount := if p.abnormalFlag then count16 p.yearCount 1 else p.yearCount }

theorem countMinute_eq (s : State) : countMinute s =
    if s.plant.machine = .abnormal then
      checkLimits (s.setPlant { yearCounted s.plant with continuous := count16 s.plant.continuous 1 })
    else s.setPlant (yearCounted s.plant) := by
  have hyear : (if s.plant.abnormalFlag then { s.plant with yearCount := count16 s.plant.yearCount 1 } else s.plant) =
      yearCounted s.plant := by
    unfold yearCounted
    split <;> rfl
  unfold countMinute
  dsimp only
  rw [hyear]
  rfl

/-- R71: the year count and the continuous count rise, and the machine follows the limits. -/
theorem countMinute_counts (s : State) :
    (countMinute s).plant.yearCount =
      (if s.plant.abnormalFlag then min (s.plant.yearCount + 1) 65535 else s.plant.yearCount) ∧
    (countMinute s).plant.continuous =
      (if s.plant.machine = .abnormal then min (s.plant.continuous + 1) 65535 else s.plant.continuous) := by
  rw [countMinute_eq]
  split <;> simp [yearCounted, count16]

theorem checkLimits_machine (s : State) : (checkLimits s).plant.machine =
    if (s.config?.map (fun m => m.continuousLimit)).getD 240 ≤ s.plant.continuous then .cutoff .limit
    else if (s.config?.map (fun m => m.yearBudget)).getD 3600 ≤ s.plant.yearCount then .cutoff .budget
    else s.plant.machine := by
  unfold checkLimits reachedLimit
  rw [abnormalLimits_eq]
  dsimp only
  by_cases hcontinuous : (s.config?.map (fun m => m.continuousLimit)).getD 240 ≤ s.plant.continuous
  · rw [if_pos hcontinuous, if_pos hcontinuous]
    exact enterCutoff_machine _ _
  · rw [if_neg hcontinuous, if_neg hcontinuous]
    by_cases hyear : (s.config?.map (fun m => m.yearBudget)).getD 3600 ≤ s.plant.yearCount
    · rw [if_pos hyear, if_pos hyear]
      exact enterCutoff_machine _ _
    · rw [if_neg hyear, if_neg hyear]

theorem countMinute_machine (s : State) :
    (s.plant.machine ≠ .abnormal → (countMinute s).plant.machine = s.plant.machine) ∧
    (s.plant.machine = .abnormal → (countMinute s).plant.machine =
      if (s.config?.map (fun m => m.continuousLimit)).getD 240 ≤ (countMinute s).plant.continuous then .cutoff .limit
      else if (s.config?.map (fun m => m.yearBudget)).getD 3600 ≤ (countMinute s).plant.yearCount then .cutoff .budget
      else .abnormal) := by
  rw [countMinute_eq]
  refine ⟨fun hnot => by rw [if_neg hnot]; rfl, fun habnormal => ?_⟩
  rw [if_pos habnormal, checkLimits_machine]
  simp only [checkLimits_plantFields, setPlant_plant]
  rw [show (yearCounted s.plant).machine = .abnormal from habnormal]
  rfl

/-- R96: what time brings to the transmit queue. -/
theorem elapse_expiresOver (dt : Nat) (s : State) : s.link.expiresOver (elapse dt s).link dt := by
  obtain ⟨hexpired, hmisses⟩ := elapse_expiries dt s
  refine ⟨(elapse_link dt s).1, hexpired, ?_⟩
  rw [hmisses, List.filter_filter]
  rfl

/-- Settles O19. -/
theorem untimedMinuteIsCounted : Obligations.UntimedMinuteIsCounted := by
  intro s u huntimed
  let v : State := elapse (60000000 - u) s
  have hexec : exec .untimedMinuteClose s = .next (untimedExpiry v) := by
    rw [exec_eq_after, after, untimedEnds, huntimed]
  have hstaged : v.clock.staged = s.clock.staged := by simp [v, elapse_clock]
  obtain ⟨hyear, hcontinuous⟩ := countMinute_counts v
  obtain ⟨hsame, hlimits⟩ := countMinute_machine v
  rw [show v.config? = s.config? from rfl] at hlimits
  simp only [v, elapse_plantFields] at hyear hcontinuous hsame hlimits
  refine ⟨_, hexec, rfl, ?_, ?_, ?_, ?_, hyear, hcontinuous, hsame, hlimits, ?_, ?_, ?_, ?_, ?_, ?_, ?_, ?_⟩
  case refine_2 =>
    show ((countMinute v).plant.machine == .abnormal || ((countMinute v).plant.machine.isCutoff &&
      (countMinute v).plant.clean && (countMinute v).plant.fire)) = _
    simp [untimedExpiry, v]
  case refine_11 =>
    rw [show (untimedExpiry v).link = v.link by simp [untimedExpiry]]
    exact elapse_expiresOver _ s
  case refine_12 => rw [← hstaged]; simp [untimedExpiry]
  all_goals simp [untimedExpiry, v, beginMinuteFlags, beginFlags]

end Signals

end Sys2Proof.Proofs

/-! Settings of the clock (06) and the ageing of the load share table (07). -/

namespace Sys2Proof.Proofs

open Sys2Proof.Machine Sys2Proof.Laws

section Time

variable {s : State}

/-! TIME requests (R108 to R110). -/

theorem setTime_clock (now : StationTime) (last : Option LastClosed) (s : State) :
    (setTime now last s).clock = { s.clock with time := some now, minuteLength := 60, staged := none, lastClosed := last } := by
  simp [setTime]

theorem acquireTime_clock (now : StationTime) (last : Option LastClosed) (s : State) :
    (acquireTime now last s).clock =
      { s.clock with time := some now, minuteLength := 60, staged := none, lastClosed := last } := by
  simp [acquireTime, setTime_clock]

/-- R67: a setting of the clock stops the untimed minute timer. -/
theorem stopUntimedTimer_untimed (year : Nat) (s : State) : (stopUntimedTimer year s).plant.untimed = none := by
  have hsettled : ∀ u : State, (settleCountYear year u).plant.untimed = u.plant.untimed := fun u => by
    unfold settleCountYear
    split
    · rfl
    · split <;> rfl
  unfold stopUntimedTimer
  dsimp only
  rw [hsettled]
  split
  · rfl
  · assumption

theorem setTime_untimed (now : StationTime) (last : Option LastClosed) (s : State) :
    (setTime now last s).plant.untimed = none := by
  simp [setTime, stopUntimedTimer_untimed]

theorem acquireTime_untimed (now : StationTime) (last : Option LastClosed) (s : State) :
    (acquireTime now last s).plant.untimed = none := by
  simp [acquireTime, setTime_untimed]

theorem acquireTime_ctrl (now : StationTime) (last : Option LastClosed) (s : State) :
    (acquireTime now last s).ctrl = { s.ctrl with state := .recording } := by
  simp [acquireTime, enterState]

/-- R109: the difference staged, within −30 to +30 s; the requested one saturates. -/
theorem stageTime_running {now : StationTime} (terminal : Nat) (target : StationTime) (htime : s.clock.time = some now) :
    stageTime terminal target s = s.setClock { s.clock with
      staged := if (target.wholeSeconds : Int) - now.wholeSeconds = 0 then none
        else some { applied := max (-30) (min 30 ((target.wholeSeconds : Int) - now.wholeSeconds)),
                    requested := max (-2147483647) (min 2147483647 ((target.wholeSeconds : Int) - now.wholeSeconds)),
                    terminal := terminal } } := by
  have happlied : ∀ d : Int, clampTo (-30) 30 d = max (-30) (min 30 d) := fun d => by
    unfold clampTo
    split
    · omega
    · split <;> omega
  have hrequested : ∀ d : Int, (saturate32 d).1 = max (-2147483647) (min 2147483647 d) := fun d => by
    unfold saturate32 limit32
    split
    · dsimp only
      omega
    · split
      · dsimp only
        omega
      · dsimp only
        omega
  unfold stageTime
  rw [htime]
  dsimp only
  rw [happlied, hrequested]

/-- Settles O36. -/
theorem timeRequestSetsOrStages : Obligations.TimeRequestSetsOrStages := by
  intro sender target payload s h hok hroom
  rw [exec_eq_after, after]
  refine ⟨fun hstate => ?_, fun hstate => ?_, fun now hstate htime => ?_⟩
  · have htake : takeTime sender.toNat (timeFields payload) s.frameOver =
        (acquireTime (timeFields payload).toTime none s.frameOver, .done) := by
      simp [takeTime, hok, hstate]
    obtain ⟨l, heq, hanswers⟩ := receiveRequest_answered (takeTime sender.toNat (timeFields payload)) h (.inr (.inl hstate))
      htake (by simp) hroom
    exact ⟨_, congrArg _ heq, acquireTime_clock .., acquireTime_ctrl .., acquireTime_untimed .., hanswers⟩
  · have htake : takeTime sender.toNat (timeFields payload) s.frameOver =
        (setTime (timeFields payload).toTime none s.frameOver, .done) := by
      simp [takeTime, hok, hstate]
    obtain ⟨l, heq, hanswers⟩ := receiveRequest_answered (takeTime sender.toNat (timeFields payload)) h (.inl hstate)
      htake (by simp) hroom
    exact ⟨_, congrArg _ heq, setTime_clock .., by simp, setTime_untimed .., by simp, hanswers⟩
  · have htake : takeTime sender.toNat (timeFields payload) s.frameOver =
        (stageTime sender.toNat (timeFields payload).toTime s.frameOver, .done) := by
      simp [takeTime, hok, hstate]
    have hstage := stageTime_running (s := s.frameOver) sender.toNat (timeFields payload).toTime htime
    rw [hstage] at htake
    obtain ⟨l, heq, hanswers⟩ := receiveRequest_answered (takeTime sender.toNat (timeFields payload)) h (.inr (.inr hstate))
      htake rfl hroom
    refine ⟨_, _, congrArg _ heq, rfl, fun hzero => ?_, fun hdiffers => ?_, rfl, hanswers⟩
    · show ({ s.clock with staged := _ } : Clock) = _
      rw [if_pos hzero]
    · show ({ s.clock with staged := _ } : Clock) = _
      rw [if_neg hdiffers]

/-! LOAD_ENTRY_AGE_OUT (R120). -/

/-- R120: what time makes of the load share table. -/
theorem advance_entry (u : ShareUnit) (dt n : Nat) : (u.advance dt).entry n = (u.entry n).bind (fun e =>
    if e.age + dt ≤ 3600000000 then some { e with age := e.age + dt } else none) := by
  simp only [ShareUnit.advance, ShareUnit.entry, List.getD_eq_getElem?_getD, List.getElem?_map]
  cases u.entries[n - 1]? <;> rfl

theorem setEntry_none_entry (u : ShareUnit) (n : Nat) : (u.setEntry n none).entry n = none := by
  simp only [ShareUnit.setEntry, ShareUnit.entry, List.getD_eq_getElem?_getD, List.getElem?_set, if_true]
  split <;> rfl

/-- Settles O38. -/
theorem oldLoadEntryCeasesToBePresent : Obligations.OldLoadEntryCeasesToBePresent := by
  refine ⟨fun n e s he hage => ?_, fun n e s he hage => ?_⟩
  · rw [exec_eq_after, after, ageOut, he]
    exact congrArg _ (if_pos hage)
  · let dt : Nat := 3600000000 - e.age
    have hexec : exec (.loadEntryAgeOut n) s =
        .next ((elapse dt s).setShare ((s.share.advance dt).setEntry (n.val + 1) none)) := by
      rw [exec_eq_after, after, ageOut, he]
      dsimp only
      rw [if_neg (by omega)]
      rfl
    have hother : ∀ m, 1 ≤ m → m ≠ n.val + 1 →
        ((s.share.advance dt).setEntry (n.val + 1) none).entry m = (s.share.advance dt).entry m := fun m hm hne =>
      setEntry_entry_of_ne none (Nat.le_add_left ..) hm hne
    refine ⟨_, hexec, setEntry_none_entry _ _, fun m x hm hne hx hyounger hpresent => ?_, fun m x hm hx holder => ?_,
      fun m hm hnone => ?_, (elapse_link dt s).2.2.2.2.2.2.1, elapse_expiresOver dt s, rfl⟩
    · refine ⟨{ x with age := x.age + dt }, ?_, rfl, rfl, rfl⟩
      refine (hother m hm hne).trans ?_
      rw [advance_entry, hx]
      exact if_pos (by omega)
    · by_cases hne : m = n.val + 1
      · rw [hne]
        exact setEntry_none_entry _ _
      · refine (hother m hm hne).trans ?_
        rw [advance_entry, hx]
        exact if_neg (by omega)
    · by_cases hne : m = n.val + 1
      · rw [hne]
        exact setEntry_none_entry _ _
      · refine (hother m hm hne).trans ?_
        rw [advance_entry, hnone]
        rfl

end Time

end Sys2Proof.Proofs

/-! The record store (08): the beginning of the own head's program, and the completions of the programmer's operations. -/

namespace Sys2Proof.Proofs

open Sys2Proof.Machine Sys2Proof.Laws

section Store

variable {s : State}

/-! The idle programmer (R131, R133). -/

theorem relocationWork_none (hrelocation : s.store.relocation = none) (hcleanup : s.store.cleanup = []) :
    relocationWork s.store = none := by
  rw [relocationWork, hrelocation]
  dsimp only
  rw [cleanupWork, hcleanup]

/-- R131: with nothing before it the own head's program is the work taken. -/
theorem nextWork_ownHead {b : Nat} (h : s.headsTurn) (hqueue : s.store.ownQueue ≠ []) (hstalled : s.store.ownStalled = false)
    (hopen : s.store.openBlock .own = some b) (howed : (s.block b).owed = false) (herased : s.store.erasedList ≠ []) :
    nextWork s = some (.headProgram .own b (s.block b).fill) := by
  have havailable : headAvailable s.store .own = true := by
    simp [headAvailable, Store.queue, Store.stalled, hqueue, hstalled, h.noRelocation]
  have hconfig : configWork s.store = none := by rw [configWork, h.noConfigWrite]
  have heraseOwn : headEraseWork s.store .own = none := by simp [headEraseWork, hopen]
  have heraseMirror : headEraseWork s.store .mirror = none := by simp [headEraseWork, herased]
  have hhead : headWork s.store .own = some (.headProgram .own b (s.block b).fill) := by
    rw [headWork, if_pos havailable, hopen]
    exact if_neg (by simpa [State.block] using howed)
  rw [nextWork, relocationWork_none h.noRelocation h.noCleanup, hconfig, heraseOwn, heraseMirror, hhead]
  rfl

/-- Settles O42. -/
theorem programmerTakesTheOwnHead : Obligations.ProgrammerTakesTheOwnHead := by
  intro s b h hqueue hstalled hopen howed herased
  have hfree : programmerFree s = true := by
    rcases h.running with hs | hs | hs <;> simp [programmerFree, h.idle, h.noRead, hs]
  rw [exec_eq_after, after, startWork, if_pos hfree, examineWork, nextWork_ownHead h hqueue hstalled hopen howed herased]
  rfl

/-! The block table. -/

theorem updateAt_getElem?_self {α : Type} {l : List α} {n : Nat} {x : α} (f : α → α) (h : l[n]? = some x) :
    (updateAt l n f)[n]? = some (f x) := by
  simp [updateAt, h]

theorem updateAt_getElem?_of_ne {α : Type} {l : List α} {n m : Nat} (f : α → α) (h : m ≠ n) :
    (updateAt l n f)[m]? = l[m]? := by
  simp [updateAt, h.symm]

theorem block_of_getElem? {b : Nat} {e : BlockEntry} (h : s.store.blocks[b]? = some e) : s.block b = e := by
  simp [State.block, List.getD_eq_getElem?_getD, h]

theorem setBlock_block {b : Nat} {e : BlockEntry} (f : BlockEntry → BlockEntry) (h : s.store.blocks[b]? = some e) :
    (setBlock b f s).store.blocks[b]? = some (f e) := updateAt_getElem?_self f h

theorem setBlock_block_of_ne {b m : Nat} (f : BlockEntry → BlockEntry) (h : m ≠ b) :
    (setBlock b f s).store.blocks[m]? = s.store.blocks[m]? := updateAt_getElem?_of_ne f h

/-! The erase of a candidate (R139). -/

theorem exec_erase {b : Nat} {p : ErasePurpose} (pass : Bool) (h : s.store.programmer = some (.erase b p))
    (hp : p ≠ .config) : exec (.blockEraseComplete pass) s =
      .next (poolEraseComplete b p pass (setProgrammer none s)) := by
  rw [exec_eq_after, after, eraseComplete, h]
  cases p with
  | config => exact absurd rfl hp
  | candidate => rfl
  | sacrifice => rfl
  | cleanup => rfl

/-- A failed erase changes the die within its block alone, and uses up a free value. -/
theorem scrambleSlots_onlyBlock (b : Nat) (s : State) : ∃ die, scrambleSlots b s =
    (s.setStore { s.store with die := die }).setFreeCount (s.freeCount + 1) ∧
      ∀ a, a / 1024 ≠ b → dieRead die a = dieRead s.store.die a := by
  refine ⟨dieFailedErase s.freeCount s.store.die b, rfl, fun a ha => ?_⟩
  unfold dieFailedErase
  exact dieRead_dieScramble_of_ne s.freeCount b 1024 a (Nat.le_refl 1024) ha

theorem poolEraseComplete_candidate_fail (b : Nat) (s : State) : poolEraseComplete b .candidate false s =
    recheckStalled (setBlock b (fun e => { e with state := .retired, erasing := false }) (scrambleSlots b s)) := by
  unfold poolEraseComplete
  rfl

/-- Settles O44. -/
theorem eraseCompletionFreesOrRetiresTheBlock : Obligations.EraseCompletionFreesOrRetiresTheBlock := by
  intro s b e hop he
  rw [exec_erase true hop nofun, exec_erase false hop nofun]
  refine ⟨⟨_, rfl, ?_⟩, ⟨_, rfl, ?_⟩⟩
  · exact ⟨rfl, fun a ha => dieRead_dieErase ha, fun a ha => dieRead_dieErase_of_ne ha, updateAt_eq_set _ he, rfl, rfl⟩
  · obtain ⟨die, hscrambled, hothers⟩ := scrambleSlots_onlyBlock b (setProgrammer none s)
    rw [poolEraseComplete_candidate_fail, hscrambled]
    exact ⟨rfl, hothers, updateAt_eq_set _ he, rfl, rfl⟩

end Store

end Sys2Proof.Proofs

/-! The record store (08): the completions of a queue head's program, and of the operations of a relocation. -/

namespace Sys2Proof.Proofs

open Sys2Proof.Machine Sys2Proof.Laws

section Completions

variable {s : State}

/-! What completes, by what the programmer was at. -/

theorem exec_programHead {a : Area} {b n : Nat} (pass : Bool) (h : s.store.programmer = some (.programHead a b n)) :
    exec (.slotProgramComplete pass) s = .next (headComplete a b n pass (setProgrammer none s)) := by
  rw [exec_eq_after, after, programComplete, h]

theorem exec_programRecord {b n : Nat} (pass : Bool) (h : s.store.programmer = some (.programRecord b n)) :
    exec (.slotProgramComplete pass) s = .next (recordComplete b n pass (setProgrammer none s)) := by
  rw [exec_eq_after, after, programComplete, h]

theorem exec_programCopyEnd {b n : Nat} (pass : Bool) (h : s.store.programmer = some (.programCopyEnd b n)) :
    exec (.slotProgramComplete pass) s = .next (copyEndComplete b n pass (setProgrammer none s)) := by
  rw [exec_eq_after, after, programComplete, h]

theorem exec_programRetiredHeader {b q : Nat} (pass : Bool)
    (h : s.store.programmer = some (.programRetiredHeader b q)) :
    exec (.slotProgramComplete pass) s = .next (retiredHeaderComplete b q pass (setProgrammer none s)) := by
  rw [exec_eq_after, after, programComplete, h]

theorem exec_copy {src tgt n : Nat} (pass : Bool) (h : s.store.programmer = some (.copy src tgt n)) :
    exec (.slotCopyComplete pass) s = .next (copyComplete src tgt n pass (setProgrammer none s)) := by
  rw [exec_eq_after, after, Machine.slotCopyComplete, h]

theorem getD_of_getElem? {α : Type} {l : List α} {n : Nat} {x d : α} (h : l[n]? = some x) : l.getD n d = x := by
  rw [List.getD_eq_getElem?_getD, h, Option.getD_some]

/-! The day index (R148). -/

/-- The day index after a record is programmed. -/
def indexAfter (r : SlotImage) (b n : Nat) (s : State) : List IndexEntry :=
  match r.date with
  | some d =>
    if indexedYear s.store.indexYear d.year && indexedOrigin s r.origin && (indexEntry s.store.index r.origin d).isNone then
      s.store.index ++ [{ origin := r.origin, day := d, block := b, slot := n }]
    else s.store.index
  | none => s.store.index

theorem setIndex_eq (r : SlotImage) (b n : Nat) (s : State) :
    setIndex r b n s = s.setStore { s.store with index := indexAfter r b n s } := by
  unfold setIndex indexAfter
  cases r.date with
  | none => rfl
  | some d =>
    dsimp only
    split <;> rfl

theorem indexEntry_none_iff {index : List IndexEntry} {origin : Nat} {day : Id} :
    indexEntry index origin day = none ↔ ∀ x ∈ index, x.origin = origin → x.day ≠ day := by
  simp [indexEntry]

/-- R148: the entry is set where the day's year and the origin are indexed and there is none yet. -/
theorem indexAfter_new {r : SlotImage} {b n y : Nat} {d : Id} (hd : r.date = some d) (hy : s.store.indexYear = some y)
    (hyear : d.year = y ∨ d.year + 1 = y) (horigin : r.origin = s.ctrl.station ∨ r.origin ∈ s.config.partners)
    (hnone : ∀ x ∈ s.store.index, x.origin = r.origin → x.day ≠ d) :
    indexAfter r b n s = s.store.index ++ [{ origin := r.origin, day := d, block := b, slot := n }] := by
  unfold indexAfter
  rw [hd]
  refine if_pos ?_
  simp only [indexedYear, hy, Option.any_some, indexedOrigin, State.station, indexEntry_none_iff.mpr hnone,
    Option.isNone_none, Bool.and_true, Bool.and_eq_true, Bool.or_eq_true, beq_iff_eq, List.contains_iff_mem]
  exact ⟨hyear, horigin⟩

/-- R148: a day that has its entry keeps it. -/
theorem indexAfter_present {r : SlotImage} {b n : Nat}
    (h : ∀ d, r.date = some d → ∃ x ∈ s.store.index, x.origin = r.origin ∧ x.day = d) :
    indexAfter r b n s = s.store.index := by
  unfold indexAfter
  split
  case h_1 d hd =>
    refine if_neg ?_
    obtain ⟨x, hx, horigin, hday⟩ := h d hd
    have hsome : indexEntry s.store.index r.origin d ≠ none := fun hnone =>
      indexEntry_none_iff.mp hnone x hx horigin hday
    simp [Option.isNone_iff_eq_none, hsome]
  case h_2 => rfl

/-! A record programmed with PASS (R133, R134). -/

/-- The entry of the block a record is programmed into. -/
def filled (r : SlotImage) (n : Nat) (e : BlockEntry) : BlockEntry := widen r { e with fill := n + 1 }

theorem filled_fill (r : SlotImage) (n : Nat) (e : BlockEntry) : (filled r n e).fill = n + 1 := by
  unfold filled widen
  split <;> rfl

theorem filled_state (r : SlotImage) (n : Nat) (e : BlockEntry) : (filled r n e).state = e.state := by
  unfold filled widen
  split <;> rfl

theorem ownRecordPass_store (r : SlotImage) (b n : Nat) (s : State) : (ownRecordPass r b n s).store = { s.store with
    ownQueue := s.store.ownQueue.drop 1, blocks := updateAt s.store.blocks b (filled r n),
    index := indexAfter r b n s } := by
  unfold ownRecordPass
  dsimp only
  rw [setIndex_eq]
  split
  · simp only [offerResult_frame, setRecordLoss_frame]
    rfl
  · simp only [setRecordLoss_frame]
    rfl

theorem ownRecordPass_recordLoss (r : SlotImage) (b n : Nat) (s : State) :
    (ownRecordPass r b n s).plant.recordLoss = false := by
  unfold ownRecordPass
  dsimp only
  split <;> simp [setRecordLoss]

theorem offerResult_link_congr {t : State} (payload : List Byte) (h : t.link = s.link) :
    (offerResult payload t).link = (offerResult payload s).link := by
  unfold offerResult
  rw [State.now, State.now, h]
  split <;> rfl

theorem ownRecordPass_link (r : SlotImage) (b n : Nat) (s : State) : (ownRecordPass r b n s).link =
    if isBroadcastKind r then (offerResult (r.data ++ r.spare) s).link else s.link := by
  unfold ownRecordPass
  dsimp only
  split
  · exact offerResult_link_congr _ (by simp)
  · simp

theorem mirrorRecordPass_eq (r : SlotImage) (b n : Nat) (s : State) : mirrorRecordPass r b n s =
    (s.setStore { s.store with
      mirrorQueue := s.store.mirrorQueue.drop 1, blocks := updateAt s.store.blocks b (filled r n),
      index := indexAfter r b n s }).setMirror
        { s.mirror with origins := updateAt s.mirror.origins (r.origin - 1) (setStoredId r) } := by
  unfold mirrorRecordPass
  dsimp only
  rw [setIndex_eq]
  rfl

/-! Relocations. -/

/-- R142: the relocation context formed, and its source's state. -/
theorem beginRelocation_eq (a : Area) (b n : Nat) (s : State) : beginRelocation a b n s = s.setStore { s.store with
    blocks := updateAt s.store.blocks b (fun e => { e with state := .relocating, owed := false }),
    relocation := some { area := a, source := b, sourceSequence := (s.block b).sequence, recordSlot := n },
    relocations := count16 s.store.relocations 1 } := rfl

/-- A relocation given up changes of a block its state alone. -/
theorem giveUpWaitingRelocation_block {m : Nat} {e : BlockEntry} (h : s.store.blocks[m]? = some e) :
    ∃ st, (giveUpWaitingRelocation s).store.blocks[m]? = some { e with state := st } := by
  have hset : ∀ {t : State} {b : Nat} {st' : BlockState}, (∃ st, t.store.blocks[m]? = some { e with state := st }) →
      ∃ st, (setBlock b (fun e => { e with state := st' }) t).store.blocks[m]? = some { e with state := st } := by
    rintro t b st' ⟨st, ht⟩
    by_cases hb : m = b
    · subst hb
      exact ⟨st', setBlock_block (e := { e with state := st }) _ ht⟩
    · exact ⟨st, by rw [setBlock_block_of_ne _ hb]; exact ht⟩
  have hself : ∃ st, s.store.blocks[m]? = some { e with state := st } := ⟨e.state, h⟩
  unfold giveUpWaitingRelocation
  split
  · split
    · dsimp only
      split
      · exact hset (hset hself)
      · exact hset hself
    · exact hself
  · exact hself

/-- A relocation given up leaves the rest of the store. -/
theorem giveUpWaitingRelocation_store (s : State) : giveUpWaitingRelocation s = s.setStore { s.store with
    blocks := (giveUpWaitingRelocation s).store.blocks, cleanup := (giveUpWaitingRelocation s).store.cleanup,
    relocation := (giveUpWaitingRelocation s).store.relocation } := by
  unfold giveUpWaitingRelocation
  split
  · split
    · dsimp only
      split <;> rfl
    · rfl
  · rfl

/-! The program of a queue head (R133, R134, R136, R142). -/

/-- R136: the entry of a block whose fill point is examined. -/
def fullAt (a : Area) (e : BlockEntry) : BlockEntry :=
  if e.state = a.openState && 1023 < e.fill then { e with state := a.fullState } else e

theorem fullAt_fill (a : Area) (e : BlockEntry) : (fullAt a e).fill = e.fill := by
  unfold fullAt
  split <;> rfl

theorem fillCheck_eq (a : Area) (b : Nat) (s : State) :
    fillCheck a b s = s.setStore { s.store with blocks := updateAt s.store.blocks b (fullAt a) } := rfl

theorem headComplete_pass {a : Area} {b n : Nat} {r : SlotImage} {rest : List SlotImage}
    (hqueue : s.store.queue a = r :: rest) :
    headComplete a b n true s = fillCheck a b (recordPass a r b n (writeSlot b n (.image r) s)) := by
  rw [headComplete, hqueue]
  rfl

/-- The state a failed program of a head leaves before it is dealt with: its slot is VOID and passed over. -/
def headFailed (b n : Nat) (s : State) : State := setBlock b (fun e => { e with fill := n + 1 }) (writeSlot b n .void s)

theorem headComplete_failed {a : Area} {b n : Nat} {r : SlotImage} {rest : List SlotImage}
    (hqueue : s.store.queue a = r :: rest) : headComplete a b n false s =
      if a = .mirror && (headFailed b n s).store.relocation.isSome then
        setBlock b (fun e => { e with state := .fullMirror })
          (dropMirror ((headFailed b n s).setStore ((headFailed b n s).store.setQueue .mirror rest)) r)
      else beginRelocation a b n (giveUpWaitingRelocation (headFailed b n s)) := by
  rw [headComplete, hqueue]
  rfl

theorem headComplete_fail {a : Area} {b n : Nat} {r : SlotImage} {rest : List SlotImage}
    (hqueue : s.store.queue a = r :: rest) (ha : a = .own ∨ s.store.relocation = none) :
    headComplete a b n false s = beginRelocation a b n (giveUpWaitingRelocation (headFailed b n s)) := by
  rw [headComplete_failed hqueue]
  refine if_neg ?_
  rw [show (headFailed b n s).store.relocation = s.store.relocation from rfl]
  rcases ha with rfl | hnone
  · simp
  · simp [hnone]

/-- R142: a MIRROR head's program that fails beside a relocation drops the record and fills the block. -/
theorem headComplete_mirror_drop {b n : Nat} {r : SlotImage} {rest : List SlotImage}
    (hqueue : s.store.mirrorQueue = r :: rest) (hrelocation : s.store.relocation ≠ none) :
    headComplete .mirror b n false s = (s.setStore { s.store with
      die := dieWrite s.store.die (slotAddress b n) .void, mirrorQueue := rest,
      blocks := updateAt (updateAt s.store.blocks b (fun e => { e with fill := n + 1 })) b
        (fun e => { e with state := .fullMirror }) }).setMirror { s.mirror with
          origins := updateAt s.mirror.origins (r.origin - 1) (fun e => { e with gap := count16 e.gap 1 }) } := by
  rw [headComplete_failed (a := .mirror) hqueue]
  refine (if_pos ?_).trans rfl
  rw [show (headFailed b n s).store.relocation = s.store.relocation from rfl]
  simpa using Option.isSome_iff_ne_none.mpr hrelocation

/-- R133: what an own head programmed with PASS leaves of the store. -/
theorem ownHead_pass_store {b n : Nat} {r : SlotImage} {rest : List SlotImage} (hqueue : s.store.ownQueue = r :: rest) :
    (headComplete .own b n true s).store = { s.store with
      die := dieWrite s.store.die (slotAddress b n) (.image r), ownQueue := rest,
      blocks := updateAt (updateAt s.store.blocks b (filled r n)) b (fullAt .own), index := indexAfter r b n s } := by
  rw [headComplete_pass (a := .own) hqueue, fillCheck_eq, recordPass, ownRecordPass_store]
  have hdrop : (writeSlot b n (.image r) s).store.ownQueue.drop 1 = rest := by
    show s.store.ownQueue.drop 1 = rest
    rw [hqueue]
    rfl
  rw [hdrop]
  rfl

theorem ownHead_pass_rest {b n : Nat} {r : SlotImage} {rest : List SlotImage} (hqueue : s.store.ownQueue = r :: rest) :
    (headComplete .own b n true s).plant.recordLoss = false ∧
    (headComplete .own b n true s).link = (if isBroadcastKind r then (offerResult (r.data ++ r.spare) s).link else s.link) ∧
    headComplete .own b n true s = { s with
      store := (headComplete .own b n true s).store, plant := (headComplete .own b n true s).plant,
      link := (headComplete .own b n true s).link } := by
  refine ⟨?_, ?_, ?_⟩
  · rw [headComplete_pass (a := .own) hqueue, fillCheck_eq]
    exact ownRecordPass_recordLoss _ _ _ _
  · rw [headComplete_pass (a := .own) hqueue, fillCheck_eq]
    refine (ownRecordPass_link _ _ _ _).trans ?_
    rw [offerResult_link_congr (s := s) _ (by simp), (writeSlot_frame b n (.image r) s).2.2.2.2.2.2.1]
  · apply state_ext <;> simp [headComplete_pass (a := .own) hqueue, recordPass]

/-- R142: what a head's failed program with its relocation begun leaves of the store. -/
theorem head_fail_store {a : Area} {b n : Nat} {r : SlotImage} {rest : List SlotImage} {e : BlockEntry}
    (hqueue : s.store.queue a = r :: rest) (ha : a = .own ∨ s.store.relocation = none)
    (he : s.store.blocks[b]? = some e) : ∃ blocks cleanup, headComplete a b n false s = s.setStore { s.store with
      die := dieWrite s.store.die (slotAddress b n) .void, blocks := blocks, cleanup := cleanup,
      relocation := some { area := a, source := b, sourceSequence := e.sequence, recordSlot := n },
      relocations := count16 s.store.relocations 1 } ∧
    cleanup = (giveUpWaitingRelocation (headFailed b n s)).store.cleanup ∧
    (∃ e', blocks[b]? = some e' ∧ e'.state = .relocating ∧ e'.fill = n + 1) ∧
    ∀ m, m ≠ b → blocks[m]? = (giveUpWaitingRelocation (headFailed b n s)).store.blocks[m]? := by
  obtain ⟨st, hst⟩ := giveUpWaitingRelocation_block (s := headFailed b n s) (m := b) (setBlock_block _ he)
  rw [headComplete_fail hqueue ha, beginRelocation_eq, block_of_getElem? hst, giveUpWaitingRelocation_store]
  refine ⟨_, _, rfl, rfl, ⟨_, updateAt_getElem?_self _ hst, rfl, rfl⟩, fun m hm => updateAt_getElem?_of_ne _ hm⟩

/-- Settles O43. -/
theorem ownRecordIsProgrammedOrRelocated : Obligations.OwnRecordIsProgrammedOrRelocated := by
  refine ⟨fun s b n e r rest hop hqueue he => ?_, fun s b n e r rest hop hqueue he hlow hhigh hsize => ?_⟩
  · rw [exec_programHead true hop, exec_programHead false hop]
    refine ⟨⟨_, rfl, ?_⟩, ⟨_, rfl, ?_⟩⟩
    · have hstore := ownHead_pass_store (s := setProgrammer none s) (b := b) (n := n) hqueue
      obtain ⟨hloss, hlink, hframe⟩ := ownHead_pass_rest (s := setProgrammer none s) (b := b) (n := n) hqueue
      generalize headComplete .own b n true (setProgrammer none s) = t at hstore hloss hlink hframe
      have hblock : t.store.blocks[b]? = some (fullAt .own (filled r n e)) := by
        rw [hstore]
        exact updateAt_getElem?_self _ (updateAt_getElem?_self _ he)
      refine ⟨by rw [hstore]; rfl, by rw [hstore]; exact dieRead_dieWrite_self _ _, fun a ha => ?_, by rw [hstore],
        by rw [hstore]; rfl, ?_, fun m hm => ?_, hloss, fun hkind hroom => ?_, fun hkind => ?_,
        fun d y hd hy hyear horigin hnone => ?_, fun hpresent => ?_, hframe⟩
      · rw [hstore]
        exact dieRead_dieWrite_of_ne _ ha
      · rw [block_of_getElem? hblock, fullAt_fill, filled_fill]
      · rw [hstore]
        exact (updateAt_getElem?_of_ne _ hm).trans (updateAt_getElem?_of_ne _ hm)
      · rw [hlink, if_pos hkind]
        unfold offerResult
        rw [if_pos (show (setProgrammer none s).link.queue.length < 8 from hroom)]
        rfl
      · rw [hlink, hkind]
        rfl
      · rw [hstore]
        exact indexAfter_new (s := s) hd hy hyear horigin hnone
      · rw [hstore]
        exact indexAfter_present (s := s) hpresent
    · obtain ⟨blocks, cleanup, heq, hcleanup, ⟨e', he', hstate, hfill⟩, hothers⟩ :=
        head_fail_store (s := setProgrammer none s) (a := .own) (n := n) hqueue (.inl rfl) he
      rw [heq]
      refine ⟨rfl, dieRead_dieWrite_self _ _, fun a ha => dieRead_dieWrite_of_ne _ ha, rfl, rfl, ?_, ?_, fun hnone => ?_,
        fun w target x y hw harea hphase htarget hsource htgt hne hx hy => ?_, rfl, rfl, rfl⟩
      · exact (congrArg BlockEntry.state (block_of_getElem? he')).trans hstate
      · exact (congrArg BlockEntry.fill (block_of_getElem? he')).trans hfill
      · have hself : giveUpWaitingRelocation (headFailed b n (setProgrammer none s)) = headFailed b n (setProgrammer none s) :=
          giveUpWaitingRelocation_self _ fun r hr => absurd (hr.symm.trans hnone) (Option.some_ne_none r)
        rw [hself] at hcleanup hothers
        exact ⟨fun m hm => (hothers m hm).trans (setBlock_block_of_ne _ hm), hcleanup⟩
      · have hgiven := giveUpWaitingRelocation_waiting (headFailed b n (setProgrammer none s)) w target hw hphase htarget
        rw [hgiven] at hcleanup hothers
        rw [harea] at hothers
        have hfirst : ∀ m, m ≠ b → m ≠ target → blocks[m]? = (setBlock w.source (fun e => { e with state := .fullMirror })
            (headFailed b n (setProgrammer none s))).store.blocks[m]? := fun m hm hmt =>
          (hothers m hm).trans (setBlock_block_of_ne _ hmt)
        have hsecond : ∀ m, m ≠ b → m ≠ w.source → (setBlock w.source (fun e => { e with state := .fullMirror })
            (headFailed b n (setProgrammer none s))).store.blocks[m]? = s.store.blocks[m]? := fun m hm hms =>
          (setBlock_block_of_ne _ hms).trans (setBlock_block_of_ne _ hm)
        have hx' : (headFailed b n (setProgrammer none s)).store.blocks[w.source]? = some x :=
          (setBlock_block_of_ne _ hsource).trans hx
        refine ⟨?_, ?_, hcleanup, fun m hm hms hmt => (hfirst m hm hmt).trans (hsecond m hm hms)⟩
        · exact (hfirst _ hsource hne.symm).trans (setBlock_block _ hx')
        · exact (hothers _ htgt).trans (setBlock_block _ ((hsecond _ htgt hne).trans hy))
  · rw [exec_programHead true hop, exec_programHead false hop]
    refine ⟨⟨_, rfl, ?_⟩, ⟨_, rfl, ?_⟩⟩
    · rw [headComplete_pass (s := setProgrammer none s) (a := .mirror) hqueue, recordPass, mirrorRecordPass_eq, fillCheck_eq]
      have hblock := updateAt_getElem?_self (fullAt .mirror) (updateAt_getElem?_self (filled r n) he)
      have horigin := updateAt_origin_self (m := s.mirror) (n := r.origin) (setStoredId r) (by omega)
      have hdrop : s.store.mirrorQueue.drop 1 = rest := by rw [hqueue]; rfl
      refine ⟨rfl, dieRead_dieWrite_self _ _, fun a ha => dieRead_dieWrite_of_ne _ ha, hdrop, rfl, ?_,
        fun m hm => (updateAt_getElem?_of_ne _ hm).trans (updateAt_getElem?_of_ne _ hm),
        fun d y hd hy hyear horigin hnone => indexAfter_new (s := s) hd hy hyear horigin hnone,
        fun hpresent => indexAfter_present (s := s) hpresent, fun m hm hne => updateAt_origin_of_ne _ hlow hm hne,
        fun hk => horigin.trans ?_, fun hk => horigin.trans ?_, fun hk => horigin.trans ?_, fun hk => horigin.trans ?_, rfl⟩
      · refine (congrArg BlockEntry.fill (block_of_getElem? hblock)).trans ?_
        rw [fullAt_fill, filled_fill]
      all_goals rw [setStoredId, hk]
    · by_cases hnone : s.store.relocation = none
      · obtain ⟨blocks, cleanup, heq, hcleanup, ⟨e', he', hstate, hfill⟩, hothers⟩ :=
          head_fail_store (s := setProgrammer none s) (a := .mirror) (n := n) hqueue (.inr hnone) he
        have hself : giveUpWaitingRelocation (headFailed b n (setProgrammer none s)) = headFailed b n (setProgrammer none s) :=
          giveUpWaitingRelocation_self _ fun r hr => absurd (hr.symm.trans hnone) (Option.some_ne_none r)
        rw [hself] at hothers
        rw [heq]
        refine ⟨rfl, dieRead_dieWrite_self _ _, fun a ha => dieRead_dieWrite_of_ne _ ha,
          fun m hm => (hothers m hm).trans (setBlock_block_of_ne _ hm), rfl, fun _ => ⟨rfl, ?_, rfl, rfl, rfl⟩,
          fun hsome => absurd hnone hsome, rfl⟩
        exact (congrArg BlockEntry.state (block_of_getElem? he')).trans hstate
      · rw [headComplete_mirror_drop (s := setProgrammer none s) hqueue hnone]
        have hblock := updateAt_getElem?_self (fun e : BlockEntry => { e with state := .fullMirror })
          (updateAt_getElem?_self (fun e : BlockEntry => { e with fill := n + 1 }) he)
        refine ⟨rfl, dieRead_dieWrite_self _ _, fun a ha => dieRead_dieWrite_of_ne _ ha,
          fun m hm => (updateAt_getElem?_of_ne _ hm).trans (updateAt_getElem?_of_ne _ hm), rfl,
          fun hnone' => absurd hnone' hnone, fun _ => ⟨rfl, ?_, ?_, rfl, rfl, ?_, fun m hm hne => ?_⟩, ?_⟩
        · exact congrArg BlockEntry.state (getD_of_getElem? hblock)
        · exact congrArg BlockEntry.fill (getD_of_getElem? hblock)
        · exact updateAt_origin_self (m := s.mirror) _ (by omega)
        · exact updateAt_origin_of_ne _ hlow hm hne
        · rfl

end Completions

end Sys2Proof.Proofs

/-! The record store (08): the completions of a relocation's copies and programs, and of the cleanup list. -/

namespace Sys2Proof.Proofs

open Sys2Proof.Machine Sys2Proof.Laws

section Relocations

variable {s : State}

/-! Copies (R143, R146). -/

theorem copyComplete_pass {src tgt n : Nat} {r : Relocation} {c : SlotContent} (hr : s.store.relocation = some r)
    (hc : dieRead s.store.die (slotAddress src n) = some c) : copyComplete src tgt n true s =
      setRelocation (some { r with copyPosition := n + 1, phase := phaseAt (n + 1) r.recordSlot })
        (setBlock tgt (fun e => { e with fill := n + 1 }) (writeSlot tgt n c s)) := by
  rw [copyComplete, hr]
  dsimp only
  rw [if_pos rfl, hc]

theorem copyComplete_fail {src tgt n : Nat} {r : Relocation} (hr : s.store.relocation = some r) :
    copyComplete src tgt n false s = abandonTarget r tgt (writeSlot tgt n .void s) := by
  rw [copyComplete, hr]
  rfl

/-- R146: an abandoned target's entry, the cleanup list and the relocation. -/
theorem abandonTarget_eq (r : Relocation) (b : Nat) (s : State) : abandonTarget r b s = s.setStore { s.store with
    blocks := updateAt s.store.blocks b (fun e => { e with state := .retired }),
    cleanup := s.store.cleanup ++ [{ block := b }],
    relocation := some { r with target := none, copyPosition := 1, phase := .target } } := rfl

/-! The relocated record and COPY_END (R144). -/

theorem recordPass_store (a : Area) (r : SlotImage) (b n : Nat) (s : State) : (recordPass a r b n s).store =
    Store.setQueue { s.store with blocks := updateAt s.store.blocks b (filled r n), index := indexAfter r b n s } a
      ((s.store.queue a).drop 1) := by
  cases a with
  | own => exact ownRecordPass_store r b n s
  | mirror => exact congrArg State.store (mirrorRecordPass_eq r b n s)

theorem queue_setQueue (t : Store) (a : Area) (q : List SlotImage) : (t.setQueue a q).queue a = q := by
  cases a <;> rfl

theorem setQueue_rest (t : Store) (a : Area) (q : List SlotImage) : (t.setQueue a q).die = t.die ∧
    (t.setQueue a q).blocks = t.blocks ∧ (t.setQueue a q).programmer = t.programmer := by
  cases a <;> exact ⟨rfl, rfl, rfl⟩

theorem recordComplete_pass {b n : Nat} {r : Relocation} {head : SlotImage} {rest : List SlotImage}
    (hr : s.store.relocation = some r) (hqueue : s.store.queue r.area = head :: rest) :
    recordComplete b n true s = setRelocation (some { r with phase := .copyEnd })
      (recordPass r.area head b n (writeSlot b n (.image head) s)) := by
  rw [recordComplete, hr]
  dsimp only
  rw [if_pos rfl, hqueue]

theorem recordComplete_fail {b n : Nat} {r : Relocation} (hr : s.store.relocation = some r) :
    recordComplete b n false s = abandonTarget r b (writeSlot b n .void s) := by
  rw [recordComplete, hr]
  rfl

/-- R144: the target's entry once its COPY_END stands. -/
def relocated (r : Relocation) (source : BlockEntry) (n : Nat) (e : BlockEntry) : BlockEntry :=
  { e with state := if 1023 < n + 1 then r.area.fullState else r.area.openState, fill := n + 1,
           oldest := earlierDate source.oldest e.oldest, newest := laterDate source.newest e.newest }

theorem copyEndComplete_pass {b n : Nat} {r : Relocation} (hr : s.store.relocation = some r) :
    copyEndComplete b n true s = s.setStore { s.store with
      die := dieWrite s.store.die (slotAddress b n) (.image (makeSlot .copyEnd (copyEndData r.sourceSequence r.recordSlot))),
      blocks := updateAt (updateAt s.store.blocks b (relocated r (s.block r.source) n)) r.source
        (fun e => { e with state := .retired }),
      index := s.store.index.map (fun x => if x.block = r.source then { x with block := b } else x),
      cleanup := s.store.cleanup ++ [{ block := r.source }], relocation := some { r with phase := .cleanup } } := by
  rw [copyEndComplete, hr]
  rfl

theorem copyEndComplete_fail {b n : Nat} {r : Relocation} (hr : s.store.relocation = some r) :
    copyEndComplete b n false s = abandonTarget r b (writeSlot b n .void s) := by
  rw [copyEndComplete, hr]
  rfl

/-! The cleanup list (R145). -/

/-- R145: what the front block's leaving of the cleanup list makes of the relocation. -/
theorem finishCleanup_eq (s : State) : finishCleanup s = s.setStore { s.store with
    cleanup := s.store.cleanup.drop 1,
    relocation := if (s.store.cleanup.drop 1).isEmpty && s.store.relocation.any (fun r => r.phase == .cleanup) then none
      else s.store.relocation } := by
  by_cases hends : ((s.store.cleanup.drop 1).isEmpty && s.store.relocation.any (fun r => r.phase == .cleanup)) = true
  · rw [if_pos hends]
    exact if_pos hends
  · rw [if_neg hends]
    exact if_neg hends

theorem relocation_after_cleanup {r : Relocation} (rest : List CleanupEntry) (hr : s.store.relocation = some r) :
    (if rest.isEmpty && s.store.relocation.any (fun r => r.phase == .cleanup) then none else s.store.relocation) =
      if rest = [] ∧ r.phase = .cleanup then none else some r := by
  rw [hr]
  cases rest with
  | nil => cases hp : r.phase <;> simp [hp]
  | cons c rest => simp

theorem poolEraseComplete_cleanup_fail (b : Nat) (s : State) :
    poolEraseComplete b .cleanup false s = recheckStalled (finishCleanup (scrambleSlots b s)) := by
  unfold poolEraseComplete
  rfl

/-- Settles O45. -/
theorem slotCopyFillsOrAbandonsTheTarget : Obligations.SlotCopyFillsOrAbandonsTheTarget := by
  refine ⟨fun s src tgt n c e r hop hr hc he => ?_, fun s b n e r head rest hop hr hqueue he => ?_,
    fun s b n src e r hop hr hne hsrc he => ?_, fun s b n e r hop hr he => ?_, fun s b rest hop hcleanup => ?_,
    fun s b q c rest pass hop hcleanup => ?_⟩
  · rw [exec_copy true hop, exec_copy false hop, copyComplete_pass (s := setProgrammer none s) hr hc,
      copyComplete_fail (s := setProgrammer none s) hr, abandonTarget_eq]
    have hretired := updateAt_getElem?_self (fun e : BlockEntry => { e with state := .retired }) he
    exact ⟨⟨_, rfl, rfl, dieRead_dieWrite_self _ _, fun a ha => dieRead_dieWrite_of_ne _ ha,
        ⟨_, rfl, rfl, rfl, rfl, rfl, rfl⟩, rfl⟩,
      ⟨_, rfl, rfl, dieRead_dieWrite_self _ _, fun a ha => dieRead_dieWrite_of_ne _ ha, ⟨_, rfl, rfl, rfl, rfl, rfl⟩,
        congrArg BlockEntry.state (getD_of_getElem? hretired), rfl, rfl⟩⟩
  · rw [exec_programRecord true hop, recordComplete_pass (s := setProgrammer none s) hr hqueue]
    let v : State := writeSlot b n (.image head) (setProgrammer none s)
    have hstore := recordPass_store r.area head b n v
    obtain ⟨hdie, hblocks, hprogrammer⟩ := setQueue_rest
      { v.store with blocks := updateAt v.store.blocks b (filled head n), index := indexAfter head b n v } r.area
      ((v.store.queue r.area).drop 1)
    have hrest : (recordPass r.area head b n v).store.queue r.area = rest := by
      have hsame : v.store.queue r.area = s.store.queue r.area := by cases r.area <;> rfl
      rw [hstore, queue_setQueue, hsame, hqueue]
      rfl
    rw [← hstore] at hdie hblocks hprogrammer
    have hblock : (recordPass r.area head b n v).store.blocks[b]? = some (filled head n e) := by
      rw [hblocks]
      exact updateAt_getElem?_self _ he
    refine ⟨_, rfl, hprogrammer, ?_, fun a ha => ?_, ?_, rfl, ?_, ?_, fun m hm => ?_⟩
    · exact (congrArg (fun die => dieRead die _) hdie).trans (dieRead_dieWrite_self _ _)
    · exact (congrArg (fun die => dieRead die a) hdie).trans (dieRead_dieWrite_of_ne _ ha)
    · rw [← hrest]
      cases r.area <;> rfl
    · exact (congrArg BlockEntry.fill (getD_of_getElem? hblock)).trans (filled_fill ..)
    · exact (congrArg BlockEntry.state (getD_of_getElem? hblock)).trans (filled_state ..)
    · exact (congrArg (fun l => l[m]?) hblocks).trans (updateAt_getElem?_of_ne _ hm)
  · rw [exec_programCopyEnd true hop, copyEndComplete_pass (s := setProgrammer none s) hr]
    have hsource : (setProgrammer none s).block r.source = src := block_of_getElem? hsrc
    have hlast : (1023 < n + 1) = (1023 ≤ n) := propext Nat.lt_succ_iff
    rw [hsource]
    have htarget := updateAt_getElem?_self (relocated r src n) he
    refine ⟨_, rfl, rfl, dieRead_dieWrite_self _ _, fun a ha => dieRead_dieWrite_of_ne _ ha, ?_, ?_,
      fun m hm hms => (updateAt_getElem?_of_ne _ hms).trans (updateAt_getElem?_of_ne _ hm), rfl, rfl, rfl, rfl⟩
    · refine (getD_of_getElem? ((updateAt_getElem?_of_ne _ hne.symm).trans htarget)).trans ?_
      simp only [relocated, hlast]
    · exact getD_of_getElem? (updateAt_getElem?_self _ ((updateAt_getElem?_of_ne _ hne).trans hsrc))
  · have hfail : exec (.slotProgramComplete false) s =
        .next (abandonTarget r b (writeSlot b n .void (setProgrammer none s))) := by
      rcases hop with hop | hop
      · rw [exec_programRecord false hop, recordComplete_fail (s := setProgrammer none s) hr]
      · rw [exec_programCopyEnd false hop, copyEndComplete_fail (s := setProgrammer none s) hr]
    rw [hfail, abandonTarget_eq]
    exact ⟨_, rfl, rfl, dieRead_dieWrite_self _ _, fun a ha => dieRead_dieWrite_of_ne _ ha,
      getD_of_getElem? (updateAt_getElem?_self _ he), rfl, rfl, rfl, rfl, rfl⟩
  · rw [exec_erase true hop nofun, exec_erase false hop nofun]
    have hdrop : s.store.cleanup.drop 1 = rest := by rw [hcleanup]; rfl
    refine ⟨⟨_, rfl, rfl, fun a ha => dieRead_dieErase ha, fun a ha => dieRead_dieErase_of_ne ha, ?_, rfl, rfl, rfl⟩, ?_⟩
    · show s.store.cleanup.modify 0 (fun c => { c with erased := true }) = _
      rw [hcleanup]
      rfl
    · obtain ⟨die, hscrambled, hothers⟩ := scrambleSlots_onlyBlock b (setProgrammer none s)
      rw [poolEraseComplete_cleanup_fail, hscrambled, finishCleanup_eq]
      refine ⟨_, rfl, rfl, hdrop, hothers, rfl, fun r hr => ?_⟩
      rw [← relocation_after_cleanup rest hr, ← hdrop]
      rfl
  · have hdrop : s.store.cleanup.drop 1 = rest := by rw [hcleanup]; rfl
    rw [exec_programRetiredHeader pass hop, retiredHeaderComplete]
    cases pass with
    | true =>
      rw [if_pos rfl, finishCleanup_eq]
      refine ⟨_, rfl, rfl, dieRead_dieWrite_self _ _, fun a ha => dieRead_dieWrite_of_ne _ ha, hdrop, fun r hr => ?_, rfl⟩
      rw [← relocation_after_cleanup rest hr, ← hdrop]
      rfl
    | false =>
      rw [if_neg Bool.false_ne_true, finishCleanup_eq]
      refine ⟨_, rfl, rfl, dieRead_dieWrite_self _ _, fun a ha => dieRead_dieWrite_of_ne _ ha, hdrop, fun r hr => ?_, rfl⟩
      rw [← relocation_after_cleanup rest hr, ← hdrop]
      rfl

end Relocations

end Sys2Proof.Proofs

/-! The readout unit (10): READs served at once and from the queue of waiting reads. -/

namespace Sys2Proof.Proofs

open Sys2Proof.Machine Sys2Proof.Laws

section Readout

variable {s : State} {w : Window}

/-! Pages (R173, R174, R197). -/

@[simp] theorem beSigned_length (len : Nat) (x : Int) : (beSigned len x).length = len := be_length ..

theorem idBytes_length (i : Id) : (idBytes i).length = 4 := by simp [idBytes]

theorem windowBytes_length (w : Window) : (windowBytes w).length = 14 := by simp [windowBytes, idBytes_length]

theorem headerPage_eq (s : State) (view : Option IntervalRecord) (w : Window) : headerPage s view w =
    [0, if w.headerPending then 2 else 0, 0] ++ windowBytes w ++ be 4 (itemCount s w) ++ be 4 (absentCount s view w) := by
  cases h : w.headerPending <;> simp [headerPage, h, bit]

theorem headerPage_take (view : Option IntervalRecord) (h : w.headerPending = true) :
    (headerPage s view w).take 17 = [0, 2, 0] ++ windowBytes w := by
  rw [headerPage_eq, h, if_pos rfl, List.append_assoc]
  exact List.take_left' (by simp [windowBytes_length])

theorem itemsPage_eq (k : WindowKind) (count : Nat) (items : List Byte) (c : Option Cursor) :
    itemsPage k (count, items, c) = be 1 (pageType k) ++ [if c = none then 1 else 0] ++ be 1 count ++ items := by
  cases c <;> simp [itemsPage, bit]

/-- R173: a page served first, and the header again for a repeat with no page served yet. -/
theorem servePage_header (view : Option IntervalRecord) {repeated : Bool}
    (h : w.headerPending = true ∨ (repeated = true ∧ w.pageStart = none)) :
    servePage s view repeated w = (headerPage s view w, { w with headerPending := false }) := by
  unfold servePage
  cases hpending : w.headerPending with
  | true => rfl
  | false =>
    rw [hpending] at h
    obtain ⟨rfl, hstart⟩ : repeated = true ∧ w.pageStart = none := by simpa using h
    have hsame : ({ w with headerPending := false } : Window) = w := by rw [← hpending]
    rw [if_neg Bool.false_ne_true, if_pos rfl, hsame, hstart]

/-- R174: the items from the cursor on, or those of the page start again. -/
theorem servePage_items (view : Option IntervalRecord) {repeated : Bool} {place : Cursor} {count : Nat}
    {items : List Byte} {c : Option Cursor} (hpending : w.headerPending = false)
    (hplace : repeated = false ∧ place = w.cursor ∨ repeated = true ∧ w.pageStart = some place)
    (hpage : pageFrom s view w place = (count, items, c)) : servePage s view repeated w =
      (be 1 (pageType w.kind) ++ [if c = none then 1 else 0] ++ be 1 count ++ items,
        if repeated then w else { w with pageStart := some w.cursor, cursor := c.getD w.start }) := by
  unfold servePage
  rw [if_neg (by simp [hpending])]
  rcases hplace with ⟨rfl, rfl⟩ | ⟨rfl, hstart⟩
  · dsimp only
    rw [if_neg Bool.false_ne_true, if_neg Bool.false_ne_true, hpage, itemsPage_eq]
  · rw [if_pos rfl, if_pos rfl, hstart]
    dsimp only
    rw [hpage, itemsPage_eq]

/-! What an ITEMS page holds (R175 to R178). -/

theorem intervalItem_length (i : Id) (n : Nat) (c : ItemClass) (fate : Fate) (e : IntervalEntry) :
    (intervalItem i n c fate e).length = 20 := by
  simp [intervalItem, idBytes_length]

theorem dayItem_length (i : Id) (n : Nat) (c : ItemClass) (e : DayEntry) : (dayItem i n c e).length = 20 := by
  simp [dayItem, idBytes_length]

theorem bareItem_length (k : WindowKind) (i : Id) (n : Nat) (c : ItemClass) : (bareItem k i n c).length = 20 := by
  unfold bareItem
  split <;> simp [idBytes_length]

/-- R176: every item of an INTERVAL or DAY window takes 20 bytes. -/
theorem resolveItem_length (s : State) (view : Option IntervalRecord) (w : Window) (c : Cursor) :
    (resolveItem s view w c).length = 20 := by
  unfold resolveItem
  dsimp only
  split
  · split
    · exact intervalItem_length ..
    · exact bareItem_length ..
  · split
    · exact bareItem_length ..
    · split
      · split
        · exact dayItem_length ..
        · exact bareItem_length ..
      · split
        · exact intervalItem_length ..
        · exact bareItem_length ..

theorem coordinates_length (w : Window) (n : Nat) (c : Cursor) : (w.coordinates n c).1.length ≤ n := by
  induction n generalizing c with
  | zero => exact Nat.le_refl 0
  | succ n ih =>
    unfold Window.coordinates
    split
    · exact Nat.le_add_left ..
    · exact Nat.succ_le_succ (ih _)

theorem items_length (view : Option IntervalRecord) (l : List Cursor) :
    (l.map (resolveItem s view w)).flatten.length = 20 * l.length := by
  induction l with
  | nil => rfl
  | cons c rest ih =>
    rw [List.map_cons, List.flatten_cons, List.length_append, resolveItem_length, ih, List.length_cons]
    omega

/-! READs (R130, R168, R174). -/

/-- A page replaces the window it was served from, where that still is its terminal's. -/
theorem updateWindow_window {r : Readout} {n : Nat} {w' : Window} (hw : r.window n = some w) (hserial : w'.serial = w.serial) :
    (updateWindow n w' r).window n = some w' := by
  have hsome : r.windows[n - 12]? = some (some w) := by
    rw [Readout.window, List.getD_eq_getElem?_getD] at hw
    cases hget : r.windows[n - 12]? with
    | none => rw [hget] at hw; cases hw
    | some x => rw [hget] at hw; rw [show x = some w from hw]
  obtain ⟨hlen, -⟩ := List.getElem?_eq_some_iff.mp hsome
  have hserved : (r.window n).any (fun x => x.serial == w'.serial) = true := by simp [hw, hserial]
  rw [updateWindow, if_pos hserved]
  simp [Readout.window, List.getD_eq_getElem?_getD, hlen]

/-- R168, R174: a READ served offers its page and moves its window on. -/
theorem serveRead_eq (r : WaitingRead) (w : Window) (s : State) : serveRead r w s =
    offerReply .items r.terminal r.taken (servePage s r.view r.repeated w).1
      (s.setReadout (updateWindow r.terminal (servePage s r.view r.repeated w).2 s.readout)) := rfl

/-- Settles O52. -/
theorem waitingReadIsServedFirst : Obligations.WaitingReadIsServedFirst := by
  intro s r rest w hidle hwaiting hw hroom
  let v : State := s.setReadout { s.readout with waiting := rest }
  have hexec : exec .storeReadServed s = .next (serveRead r w v) := by
    rw [exec_eq_after, after, serveWaiting, hidle, hwaiting]
    dsimp only
    rw [show readWindow r v = some w from hw]
  refine ⟨_, (servePage v r.view r.repeated w).1, (servePage v r.view r.repeated w).2, hexec, rfl, ?_, ?_, fun hpending => ?_,
    fun hpending hfirst => ?_, fun hintime => ?_, fun hlate => ?_, ?_⟩
  · rw [serveRead_eq, offerReply_onlyLink]
    rfl
  · rw [serveRead_eq, offerReply_onlyLink]
    show ((rest.map _).map _) = _
    rw [List.map_map]
    refine List.map_congr_left fun x _ => ?_
    simp only [Function.comp]
    split <;> rfl
  · rw [servePage_header r.view (.inl hpending)]
    exact ⟨rfl, headerPage_take _ hpending⟩
  · obtain ⟨count, items, c, hpage⟩ : ∃ count items c, pageFrom v r.view w w.cursor = (count, items, c) := ⟨_, _, _, rfl⟩
    rw [servePage_items r.view hpending (.inl ⟨hfirst, rfl⟩) hpage, hfirst]
    rfl
  · exact offerReply_replies .items r.terminal r.taken _ (v.setReadout (updateWindow r.terminal
      (servePage v r.view r.repeated w).2 v.readout)) rfl rfl hroom hintime.le
  · rw [serveRead_eq, offerReply]
    exact congrArg State.link (if_neg (Nat.not_le.mpr hlate))
  · rw [serveRead_eq, offerReply_onlyLink]
    rfl

/-- R174: a READ that finds the programmer idle and no other read waiting is served at once. -/
theorem exec_read_served {sender target : Byte} {payload : List Byte} {repeated : Bool}
    (h : s.receives .read sender target payload) (hs : s.serving) (hrepeat : readRepeat payload = some repeated)
    (hw : s.readout.window sender.toNat = some w) (hidle : s.store.programmer = none) (hnone : s.readout.waiting = []) :
    exec (.read sender target payload) s =
      .next (offerReply .items sender.toNat s.link.deadlineTimer (servePage s.frameOver (provisionalView s) repeated w).1
        (s.frameOver.setReadout (updateWindow sender.toNat (servePage s.frameOver (provisionalView s) repeated w).2
          s.readout))) := by
  rw [exec_eq_after, after, receiveRequest_serving h hs, takeRead, hrepeat]
  dsimp only
  rw [show s.frameOver.readout.window sender.toNat = some w from hw]
  dsimp only
  rw [takeReadOf]
  dsimp only
  rw [if_neg (by simp [hidle, hnone])]
  rfl

/-- Settles O51. -/
theorem readReturnsTheHeaderThenItems : Obligations.ReadReturnsTheHeaderThenItems := by
  intro sender target payload repeated w s h hs hrepeat hw hidle hnone hroom
  have hwindow : ∀ w' : Window, w'.serial = w.serial → (updateWindow sender.toNat w' s.readout).window sender.toNat = some w' :=
    fun w' hserial => updateWindow_window hw hserial
  have hreplies : ∀ page r, (offerReply .items sender.toNat s.link.deadlineTimer page (s.frameOver.setReadout r)).replies
      s.frameOver.link .items sender.toNat s.link.deadlineTimer page := fun page r =>
    offerReply_replies .items sender.toNat s.link.deadlineTimer page (s.frameOver.setReadout r) rfl rfl hroom
      (Nat.le_add_right ..)
  have hframe : ∀ page r, offerReply .items sender.toNat s.link.deadlineTimer page (s.frameOver.setReadout r) =
      { s with link := (offerReply .items sender.toNat s.link.deadlineTimer page (s.frameOver.setReadout r)).link,
               readout := (offerReply .items sender.toNat s.link.deadlineTimer page (s.frameOver.setReadout r)).readout } :=
    fun page r => by apply state_ext <;> simp
  rw [exec_read_served h hs hrepeat hw hidle hnone]
  refine ⟨fun hheader => ?_, fun count items c place hpending hplace hpage => ⟨?_, fun hkind => ?_, fun hkind => ?_,
    fun hkind => ?_⟩⟩
  · rw [servePage_header (provisionalView s) hheader]
    refine ⟨_, rfl, ?_, ?_, fun hkind => ?_, fun hkind => ?_, hframe _ _⟩
    · rw [offerReply_onlyLink]
      exact hwindow _ rfl
    · rw [headerPage_eq]
      exact hreplies _ _
    · rw [itemCount]
      rcases hkind with hkind | hkind <;> rw [hkind]
    · rw [itemCount, hkind]
  · rw [servePage_items (provisionalView s) hpending hplace hpage]
    refine ⟨_, rfl, ?_, hreplies _ _, hframe _ _⟩
    rw [offerReply_onlyLink]
    exact hwindow _ (by cases repeated <;> rfl)
  · have hcoordinates : pageFrom s.frameOver (provisionalView s) w place = ((w.coordinates 6 place).1.length,
        ((w.coordinates 6 place).1.map (resolveItem s.frameOver (provisionalView s) w)).flatten,
        (w.coordinates 6 place).2) := by
      rw [pageFrom]
      rcases hkind with hkind | hkind <;> rw [hkind]
    rw [hcoordinates] at hpage
    cases hpage
    exact ⟨coordinates_length .., items_length .., rfl, rfl, rfl⟩
  · have hnotices : pageFrom s.frameOver (provisionalView s) w place =
        (((noticesFrom s.frameOver w (w.idCount + 1) 4 place).take 3).length,
          (((noticesFrom s.frameOver w (w.idCount + 1) 4 place).take 3).map (fun e => noticeItem e.1)).flatten,
          if (noticesFrom s.frameOver w (w.idCount + 1) 4 place).length ≤ 3 then none
          else ((noticesFrom s.frameOver w (w.idCount + 1) 4 place).take 3).getLast?.map (fun e => e.2)) := by
      rw [pageFrom, hkind]
    rw [hnotices] at hpage
    cases hpage
    refine ⟨List.length_take_le .., rfl, ?_⟩
    split
    case isTrue hfew => exact ⟨fun _ => hfew, fun _ => rfl⟩
    case isFalse hmany =>
      refine ⟨fun hlast => ?_, fun hfew => absurd hfew hmany⟩
      have hempty : (noticesFrom s.frameOver w (w.idCount + 1) 4 place).take 3 = [] := by simpa using hlast
      have hlen := congrArg List.length hempty
      simp only [List.length_take, List.length_nil] at hlen
      omega
  · rw [pageFrom, hkind] at hpage
    cases hpage
    exact ⟨rfl, rfl, rfl⟩

end Readout

end Sys2Proof.Proofs

/-! The end of the start-up scan (08; R153, R184, R193). -/

namespace Sys2Proof.Proofs

open Sys2Proof.Machine Sys2Proof.Laws

section Scan

variable {s : State}

/-! Block 0 stands outside the pool the scan settles (R150, R152). -/

theorem blockSlots_dieWrite_of_ne {a b : Nat} (c : SlotContent) (die : List (Nat × SlotContent)) (h : a / 1024 ≠ b) :
    blockSlots (dieWrite die a c) b = blockSlots die b := by
  induction die with
  | nil => simp [blockSlots, dieWrite, h]
  | cons e rest ih =>
    unfold blockSlots at ih ⊢
    unfold dieWrite
    split
    · exact List.filterMap_cons_none (if_neg h)
    · split
      case isTrue heq =>
        have he : e.1 / 1024 ≠ b := heq ▸ h
        simp [h, he]
      case isFalse => rw [List.filterMap_cons, List.filterMap_cons, ih]

theorem blockSlots_filter {b : Nat} {p : Nat × SlotContent → Bool} (die : List (Nat × SlotContent))
    (h : ∀ e, e.1 / 1024 = b → p e = true) : blockSlots (die.filter p) b = blockSlots die b := by
  rw [blockSlots, blockSlots, List.filterMap_filter]
  refine List.filterMap_congr fun e _ => ?_
  by_cases he : e.1 / 1024 = b
  · rw [if_pos (h e he)]
  · rw [if_neg he, ite_self]

theorem blockSlots_dieScramble {m b : Nat} (free i : Nat) (die : List (Nat × SlotContent)) (hi : i ≤ 1024) (h : m ≠ b) :
    blockSlots (dieScramble free m i die) b = blockSlots die b := by
  induction i generalizing die with
  | zero => rfl
  | succ i ih =>
    have hblock : slotAddress m i / 1024 ≠ b := by
      unfold slotAddress
      omega
    unfold dieScramble
    dsimp only
    rw [ih _ (by omega)]
    split
    · exact blockSlots_filter die fun e he => by
        simp only [bne_iff_ne, ne_eq]
        intro heq
        exact hblock (heq ▸ he)
    · exact blockSlots_dieWrite_of_ne .void die hblock
    · rfl

theorem blockSlots_scrambleSlots {m b : Nat} (h : m ≠ b) (s : State) :
    blockSlots (scrambleSlots m s).store.die b = blockSlots s.store.die b := by
  rw [scrambleSlots_die, dieFailedErase]
  exact blockSlots_dieScramble s.freeCount 1024 s.store.die (Nat.le_refl 1024) h

theorem blockSlots_scanErase {m b : Nat} (failed : Bool) (h : m ≠ b) (s : State) :
    blockSlots (scanErase failed m s).store.die b = blockSlots s.store.die b := by
  unfold scanErase
  split
  · rw [setBlock_dieKept, blockSlots_scrambleSlots h]
  · exact blockSlots_filter s.store.die fun e he => by simp [he, Ne.symm h]

theorem blockSlots_scanRetire {m b : Nat} (failedErase failedHeader : Bool) (h : m ≠ b) (s : State) :
    blockSlots (scanRetire failedErase failedHeader m s).store.die b = blockSlots s.store.die b := by
  have hheader : slotAddress m 0 / 1024 ≠ b := by
    unfold slotAddress
    omega
  have herased : blockSlots (dieErase s.store.die m) b = blockSlots s.store.die b :=
    blockSlots_filter s.store.die fun e he => by simp [he, Ne.symm h]
  unfold scanRetire
  split
  · rw [setBlock_dieKept, blockSlots_scrambleSlots h]
  · split
    · exact (blockSlots_dieWrite_of_ne .void _ hheader).trans herased
    · exact (blockSlots_dieWrite_of_ne _ _ hheader).trans herased

theorem blockSlots_settleBlock {x : ScannedBlock} {b : Nat} (all : List ScannedBlock) (erases headers : List Nat)
    (h : x.number ≠ b) (s : State) :
    blockSlots (settleBlock all erases headers s x).store.die b = blockSlots s.store.die b := by
  unfold settleBlock
  split
  · exact blockSlots_scanErase _ h s
  · split
    · exact blockSlots_scanRetire _ _ h s
    · rfl

theorem blockSlots_foldl_settleBlock {b : Nat} (all : List ScannedBlock) (erases headers : List Nat) (l : List ScannedBlock)
    (h : ∀ x ∈ l, x.number ≠ b) (s : State) :
    blockSlots (l.foldl (settleBlock all erases headers) s).store.die b = blockSlots s.store.die b := by
  induction l generalizing s with
  | nil => rfl
  | cons x rest ih =>
    rw [List.foldl_cons, ih (fun y hy => h y (List.mem_cons_of_mem _ hy)),
      blockSlots_settleBlock all erases headers (h x List.mem_cons_self)]

theorem foundConfig_settleStore (erases headers : List Nat) (s : State) :
    foundConfig (settleStore erases headers s) = foundConfig s := by
  have hpool : ∀ x ∈ scanBlocks s.store.die, x.number ≠ 0 := fun x hx => by
    obtain ⟨n, -, rfl⟩ := List.mem_map.mp hx
    exact Nat.succ_ne_zero n
  have hdie : blockSlots (settleStore erases headers s).store.die 0 = blockSlots s.store.die 0 := by
    unfold settleStore
    generalize scanBlocks s.store.die = all at hpool
    show blockSlots (openArea _ _ (openArea _ _ _)).store.die 0 = _
    rw [openArea_dieKept, openArea_dieKept, blockSlots_foldl_settleBlock all erases headers all hpool]
    rfl
  rw [foundConfig, foundConfig, hdie]

/-! What the scan hands over leaves the block table, the store's condition and the die as settled. -/

theorem offerOwn_tableKept (r : SlotImage) (s : State) :
    (offerOwn r s).store.blocks = s.store.blocks ∧ (offerOwn r s).store.failed = s.store.failed ∧
      (offerOwn r s).store.relocation = s.store.relocation := by
  unfold offerOwn
  (repeat' split) <;> simp

theorem enterCutoff_tableKept (cause : CutoffCause) (s : State) :
    (enterCutoff cause s).store.blocks = s.store.blocks ∧ (enterCutoff cause s).store.failed = s.store.failed ∧
      (enterCutoff cause s).store.relocation = s.store.relocation := by
  simp [enterCutoff, offerNotice, offerOwn_tableKept]

theorem enterAbnormal_tableKept (cause : Cause) (carried : Nat) (s : State) :
    (enterAbnormal cause carried s).store.blocks = s.store.blocks ∧
      (enterAbnormal cause carried s).store.failed = s.store.failed ∧
      (enterAbnormal cause carried s).store.relocation = s.store.relocation := by
  unfold enterAbnormal checkLimits
  dsimp only
  split <;> simp [cutoffFromAbnormal, offerAbnEnd, offerNotice, offerOwn_tableKept, enterCutoff_tableKept]

theorem restoreLevels_tableKept (carried : Nat) (s : State) :
    (restoreLevels carried s).store.blocks = s.store.blocks ∧ (restoreLevels carried s).store.failed = s.store.failed ∧
      (restoreLevels carried s).store.relocation = s.store.relocation := by
  unfold restoreLevels
  split
  · split
    · exact enterCutoff_tableKept .trip s
    · split
      · exact enterAbnormal_tableKept .resumed carried s
      · exact ⟨rfl, rfl, rfl⟩
  · exact ⟨rfl, rfl, rfl⟩

theorem handOverPlant_tableKept (own : List SlotImage) (s : State) :
    (handOverPlant own s).store.blocks = s.store.blocks ∧ (handOverPlant own s).store.failed = s.store.failed ∧
      (handOverPlant own s).store.relocation = s.store.relocation := by
  unfold handOverPlant
  dsimp only
  split
  · simp [restoreLevels_tableKept, offerAbnEnd, offerNotice, offerOwn_tableKept]
  · (repeat' split) <;> simp [restoreLevels_tableKept]

theorem comeIntoForce_tableKept (f : InForce) (s : State) :
    (comeIntoForce f s).store.blocks = s.store.blocks ∧ (comeIntoForce f s).store.failed = s.store.failed ∧
      (comeIntoForce f s).store.relocation = s.store.relocation := ⟨rfl, rfl, rfl⟩

theorem handOverController_tableKept (s : State) :
    (handOverController s).store.blocks = s.store.blocks ∧ (handOverController s).store.failed = s.store.failed ∧
      (handOverController s).store.relocation = s.store.relocation := by
  unfold handOverController
  dsimp only
  split
  · simp
  · split <;> simp [comeIntoForce_tableKept]

/-! The hand-over to the controller (R184, R193). -/

theorem foundConfig_congr {t : State} (h : t.store.die = s.store.die) : foundConfig t = foundConfig s := by
  rw [foundConfig, foundConfig, h]

theorem configToForce_found {q : Nat} {m : ConfigImage} (hok : s.store.failed = false)
    (h : foundConfig s = some (q, s.ctrl.station, m)) : configToForce s = some { image := m, sequence := q } := by
  rw [configToForce, h]
  exact if_pos (by simp [hok, State.station])

theorem configToForce_none (h : ∀ q m, foundConfig s ≠ some (q, s.ctrl.station, m)) : configToForce s = none := by
  rw [configToForce]
  split
  case h_1 q n m heq =>
    refine if_neg fun hn => h q m ?_
    obtain ⟨hn, -⟩ := (Bool.and_eq_true ..).mp hn
    rw [heq, of_decide_eq_true hn]
    rfl
  case h_2 => rfl

theorem handOverController_failed (h : s.store.failed = true) : (handOverController s).ctrl.state = .failed ∧
    (handOverController s).ctrl.inForce = s.ctrl.inForce ∧ (handOverController s).plant.machine = s.plant.machine ∧
    (handOverController s).plant.continuous = s.plant.continuous ∧
    (handOverController s).plant.yearCount = s.plant.yearCount := by
  unfold handOverController
  dsimp only
  rw [if_pos h]
  exact ⟨rfl, rfl, rfl, rfl, rfl⟩

theorem handOverController_found {f : InForce} (hok : s.store.failed = false) (hf : configToForce s = some f) :
    (handOverController s).ctrl.state = .untimed ∧ (handOverController s).ctrl.inForce = some f ∧
    (handOverController s).ctrl.edit = f.image ∧ (handOverController s).plant.untimed = some 0 := by
  have hedit : scanEdit s = f.image := by
    unfold scanEdit
    rw [hf]
  unfold handOverController
  dsimp only
  rw [if_neg (by simp [hok]), hf, hedit]
  exact ⟨rfl, rfl, rfl, rfl⟩

theorem handOverController_none (hok : s.store.failed = false) (hf : configToForce s = none) :
    (handOverController s).ctrl.state = .setup ∧ (handOverController s).ctrl.inForce = s.ctrl.inForce ∧
    (handOverController s).plant.untimed = some 0 := by
  unfold handOverController
  dsimp only
  rw [if_neg (by simp [hok]), hf]
  exact ⟨rfl, rfl, rfl⟩

/-- R79: with the store FAILED and nothing handed over the machine is NORMAL with both counts 0. -/
theorem handOverPlant_nothing (h : s.store.failed = true) (hyear : s.period.summaryYear = none) :
    (handOverPlant [] s).plant.machine = .normal ∧ (handOverPlant [] s).plant.continuous = 0 ∧
      (handOverPlant [] s).plant.yearCount = 0 := by
  have hnone : openEpisode [] = none := rfl
  unfold handOverPlant
  rw [hnone, hyear]
  dsimp only
  rw [if_pos (by simp [h, handedToPlant])]
  exact ⟨rfl, rfl, rfl⟩

theorem areaRecords_congr {t : State} (a : Area) (hdie : t.store.die = s.store.die) (hblocks : t.store.blocks = s.store.blocks)
    (hrelocation : t.store.relocation = s.store.relocation) (hstation : t.ctrl.station = s.ctrl.station) :
    areaRecords a t = areaRecords a s := by
  simp only [areaRecords, Store.areaBlocks, Store.belongs, State.station, hblocks, hdie, hrelocation, hstation]

/-- The station with what the die holds settled, indexed and judged, before the hand-overs (R153). -/
def judged (erases headers : List Nat) (s : State) : State :=
  formIndex (judgeStore (locateConfig (settleStore erases headers s)))

/-- The station before the hand-over to its controller. -/
def handedOver (u : State) : State :=
  handOverPlant (recordsOfTwoYears ((areaRecords .own u).map (fun p => p.record)))
    (handOverPeriod (newestInterval ((areaRecords .own u).map (fun p => p.record)))
      (recordsOfTwoYears ((areaRecords .own u).map (fun p => p.record))) (handOverMirror u))

theorem scanEnds_eq (erases headers : List Nat) (h : s.ctrl.state = .scan) :
    scanEnds erases headers s = handOverController (handedOver (judged erases headers s)) := by
  rw [scanEnds, if_pos h]
  rfl

theorem judged_failed (erases headers : List Nat) (s : State) : (judged erases headers s).store.failed = true ↔
    (((judged erases headers s).store.blocks.drop 1).filter (fun e => e.state != .retired)).length < 8 := by
  unfold judged
  generalize locateConfig (settleStore erases headers s) = u
  exact decide_eq_true_iff

theorem handedOver_nothing (h : s.store.failed = true) (hnone : areaRecords .own s = []) :
    (handedOver s).plant.machine = .normal ∧ (handedOver s).plant.continuous = 0 ∧ (handedOver s).plant.yearCount = 0 := by
  unfold handedOver
  rw [hnone]
  exact handOverPlant_nothing h rfl

/-- Settles O48. -/
theorem scanEndsInFailedSetupOrUntimed : Obligations.ScanEndsInFailedSetupOrUntimed := by
  intro erases headers s hscan hforce
  have hjudged := judged_failed erases headers s
  have hjudgedCtrl : (judged erases headers s).ctrl = s.ctrl := by simp [judged]
  have hjudgedFound : foundConfig (judged erases headers s) = foundConfig s :=
    (foundConfig_congr (by simp [judged])).trans (foundConfig_settleStore erases headers s)
  have hframe := scanEnds_frame erases headers s
  have hstation := scanEnds_ctrlFields erases headers s
  rw [scanEnds_eq erases headers hscan] at hframe hstation
  obtain ⟨hintake, hclock, hlink, -⟩ := hframe
  refine ⟨_, (exec_eq_after ..).trans (congrArg _ (scanEnds_eq erases headers hscan)), hstation, hclock, hlink, hintake, ?_⟩
  generalize judged erases headers s = u at hjudged hjudgedCtrl hjudgedFound
  have hctrl : (handedOver u).ctrl = s.ctrl := by simp [handedOver, hjudgedCtrl]
  have hfound : foundConfig (handedOver u) = foundConfig s := (foundConfig_congr (by simp [handedOver])).trans hjudgedFound
  obtain ⟨hblocks, hok, hrelocation⟩ : (handedOver u).store.blocks = u.store.blocks ∧
      (handedOver u).store.failed = u.store.failed ∧ (handedOver u).store.relocation = u.store.relocation := by
    simp [handedOver, handOverPlant_tableKept]
  obtain ⟨hblocks', hok', hrelocation'⟩ := handOverController_tableKept (handedOver u)
  have hrecords : areaRecords .own (handOverController (handedOver u)) = areaRecords .own u :=
    areaRecords_congr .own (by simp [handedOver]) (hblocks'.trans hblocks)
      (hrelocation'.trans hrelocation) (by simp [hctrl, hjudgedCtrl])
  rw [hblocks', hok', hblocks, hok]
  refine ⟨hjudged, fun hfailed => ?_, fun hfailed hnone => ?_, fun q m hgood hq => ?_, fun hgood hq => ?_⟩
  · obtain ⟨hstate, hin, -⟩ := handOverController_failed (hok.trans hfailed)
    exact ⟨hstate, by rw [hin, hctrl, hforce]⟩
  · obtain ⟨-, -, hmachine, hcontinuous, hyear⟩ := handOverController_failed (hok.trans hfailed)
    rw [hmachine, hcontinuous, hyear]
    exact handedOver_nothing hfailed (hrecords.symm.trans hnone)
  · exact handOverController_found (hok.trans hgood)
      (configToForce_found (hok.trans hgood) (by rw [hfound, hctrl, hq]))
  · obtain ⟨hstate, hin, huntimed⟩ := handOverController_none (hok.trans hgood)
      (configToForce_none fun q m => by
        rw [hfound, hctrl]
        exact hq q m)
    exact ⟨hstate, by rw [hin, hctrl, hforce], huntimed⟩

end Scan

end Sys2Proof.Proofs

/-! START carried out at its config write (11; R189, R190). -/

namespace Sys2Proof.Proofs

open Sys2Proof.Machine Sys2Proof.Laws

section Start

variable {s : State}

/-- R132: an offer to the own record queue touches the queue and the own-loss count of the store alone. -/
theorem offerOwn_store (r : SlotImage) (s : State) : ∃ queue losses,
    (offerOwn r s).store = { s.store with ownQueue := queue, ownLosses := losses } := by
  unfold offerOwn
  split
  · exact ⟨_, _, rfl⟩
  · split
    · exact ⟨_, _, rfl⟩
    · exact ⟨_, _, rfl⟩

/-- The state a START carried out enters (R189). -/
def stateEntered (s : State) : StationState := if s.timed then .recording else .untimed

theorem stateEntered_code (s : State) : (stateEntered s).code =
    if s.clock.time.isSome then StationState.recording.code else StationState.untimed.code :=
  apply_ite StationState.code _ _ _

/-- The START notice (R189, R197). -/
def startNotice (f : InForce) (terminal : Nat) (s : State) : SlotImage :=
  noticeSlot s .start (be 4 f.sequence ++ be 1 terminal ++ be 1 (stateEntered s).code ++ pollutantCodes f.image)

theorem enterFromSetup_eq (f : InForce) (terminal : Nat) (s : State) : enterFromSetup f terminal s =
    if stateEntered s = .recording then
      (enterState (stateEntered s) (offerOwn (startNotice f terminal s) s)).setPeriod
        { (offerOwn (startNotice f terminal s) s).period with recording := .waiting }
    else enterState (stateEntered s) (offerOwn (startNotice f terminal s) s) := rfl

theorem enterFromSetup_store (f : InForce) (terminal : Nat) (s : State) :
    (enterFromSetup f terminal s).store = (offerOwn (startNotice f terminal s) s).store := by
  rw [enterFromSetup_eq]
  split <;> rfl

theorem enterFromSetup_ctrl (f : InForce) (terminal : Nat) (s : State) :
    (enterFromSetup f terminal s).ctrl = { s.ctrl with state := stateEntered s } := by
  have hctrl : (offerOwn (startNotice f terminal s) s).ctrl = s.ctrl := by simp
  rw [← hctrl, enterFromSetup_eq]
  split <;> rfl

theorem enterFromSetup_permit (f : InForce) (terminal : Nat) (s : State) :
    (enterFromSetup f terminal s).plant.permit = !s.plant.machine.isCutoff ∧
      (enterFromSetup f terminal s).plant.machine = s.plant.machine := by
  have hmachine : (offerOwn (startNotice f terminal s) s).plant.machine = s.plant.machine := by simp
  rw [← hmachine, enterFromSetup_eq]
  by_cases htimed : s.timed = true
  · simp [stateEntered, htimed, enterState, driveOutputs, decidePermit]
  · simp [stateEntered, htimed, enterState, driveOutputs, decidePermit]

theorem enterFromSetup_recording (f : InForce) (terminal : Nat) (s : State) :
    (enterFromSetup f terminal s).period.recording = if s.timed then .waiting else s.period.recording := by
  have hperiod : (offerOwn (startNotice f terminal s) s).period = s.period := by simp
  rw [← hperiod, enterFromSetup_eq, stateEntered]
  by_cases htimed : s.timed = true
  · rw [if_pos htimed, if_pos rfl, if_pos htimed]
    rfl
  · rw [if_neg htimed, if_neg nofun, if_neg htimed]
    rfl

/-- The answer of the pending START (R168, R181). -/
theorem answerStart_pending (code : AnswerCode) {p : PendingStart} (h : s.ctrl.pendingStart = some p) :
    answerStart code s = offerAnswer .start p.terminal p.taken code
      (setDeferred p.terminal none (s.setCtrl { s.ctrl with pendingStart := none })) := by
  rw [answerStart, h]

/-- R150: the die and the config position with the config slot programmed. -/
def configWritten (n : Nat) (w : ConfigWrite) (s : State) : State :=
  s.setStore { s.store with
    die := dieWrite s.store.die (slotAddress 0 n) (.image (makeSlot .config (configData w.sequence s.ctrl.station w.image))),
    configSlot := some n, configNext := n + 1, configSequence := some w.sequence, configWrite := none, programmer := none }

theorem exec_programConfig {n : Nat} {w : ConfigWrite} (h : s.store.programmer = some (.programConfig n))
    (hw : s.store.configWrite = some w) :
    exec (.slotProgramComplete true) s = .next (carryOutStart w (configWritten n w s)) := by
  rw [exec_eq_after, after, programComplete, h]
  dsimp only
  rw [configComplete, show (setProgrammer none s).store.configWrite = some w from hw]
  rfl

/-- Settles O56. -/
theorem startIsCarriedOutAtItsWrite : Obligations.StartIsCarriedOutAtItsWrite := by
  intro s n w p hop hw hp
  let f : InForce := { image := w.image, sequence := w.sequence }
  let v := comeIntoForce f (configWritten n w s)
  let e := enterFromSetup f p.terminal v
  let u := setDeferred p.terminal none (e.setCtrl { e.ctrl with pendingStart := none })
  obtain ⟨hintake, hclock, hreadout⟩ : e.intake = v.intake ∧ e.clock = v.clock ∧ e.readout = v.readout := by simp [e]
  have hctrl : e.ctrl = { v.ctrl with state := stateEntered v } := enterFromSetup_ctrl ..
  have hcarry : carryOutStart w (configWritten n w s) = offerAnswer .start p.terminal p.taken .done u := by
    rw [carryOutStart, show (configWritten n w s).ctrl.pendingStart = some p from hp]
    exact answerStart_pending .done (show e.ctrl.pendingStart = some p by rw [hctrl]; exact hp)
  have hoffered : e.store = (offerOwn (startNotice f p.terminal v) v).store := enterFromSetup_store ..
  obtain ⟨queue, losses, hqueue⟩ := offerOwn_store (startNotice f p.terminal v) v
  have hstore : e.store = { v.store with ownQueue := queue, ownLosses := losses } := hoffered.trans hqueue
  obtain ⟨hpermit, hmachine⟩ : e.plant.permit = !v.plant.machine.isCutoff ∧ e.plant.machine = v.plant.machine :=
    enterFromSetup_permit ..
  have hlink : u.link = s.link := by simp [u, e, v, setDeferred, configWritten]
  have hrecording : e.period.recording = if v.timed then .waiting else v.period.recording := enterFromSetup_recording ..
  have hexec := (exec_programConfig hop hw).trans (congrArg _ hcarry)
  clear_value e
  refine ⟨_, hexec, ?_⟩
  rw [offerAnswer_onlyLink]
  refine ⟨?_, ?_, ?_, ?_, ?_, ?_, ?_, ?_, ?_, ?_, ?_, ?_, ?_, fun hroom => ?_, fun hlo hhi hlen => ?_, fun hearly hroom => ?_,
    fun hlate => ?_⟩
  · show { e.ctrl with pendingStart := none } = _
    rw [hctrl]
    rfl
  · exact hrecording
  · exact congrArg Store.configSlot hstore
  · exact congrArg Store.configSequence hstore
  · exact congrArg Store.configNext hstore
  · exact congrArg Store.configWrite hstore
  · exact congrArg Store.programmer hstore
  · exact (congrArg (fun t : Store => dieRead t.die _) hstore).trans (dieRead_dieWrite_self ..)
  · exact fun a ha => (congrArg (fun t : Store => dieRead t.die a) hstore).trans (dieRead_dieWrite_of_ne _ ha)
  · exact hpermit
  · exact hmachine
  · exact hclock
  · exact hintake.trans (comeIntoForce_frame ..).1
  · show e.store.ownQueue = _
    rw [hoffered, offerOwn_of_room (s := v) _ hroom, startNotice, stateEntered_code]
    rfl
  · show e.readout.deferred.set (p.terminal - 12) none = _
    rw [hreadout]
    exact congrArg (List.set · _ _) (keepWindows_length _ _).2
  · have hreplies := offerReply_replies .answer p.terminal p.taken (be 1 FrameKind.start.code ++ be 1 AnswerCode.done.code) u
      rfl rfl (hlink ▸ hroom) (by rw [hlink]; exact hearly.le)
    rw [hlink] at hreplies
    exact hreplies
  · have hpast : ¬u.now ≤ p.taken + deadlineAfter .answer := by
      rw [State.now, hlink]
      exact Nat.not_le.mpr hlate
    show (offerReply .answer p.terminal p.taken _ u).link = _
    rw [offerReply, if_neg hpast, hlink]
    rfl

end Start

end Sys2Proof.Proofs

/-! What the period unit records when it closes an interval, a day or a year (03; R52, R57, R60), and RESTART (R191). -/

namespace Sys2Proof.Proofs

open Sys2Proof.Machine Sys2Proof.Laws

section Records

variable {s : State}

/-- The record of an interval closed (R48 to R51). -/
def intervalRecord (o : OpenInterval) (fate : Fate) (s : State) : IntervalRecord :=
  buildInterval s.station s.config o fate ComponentAcc.untaken

/-- The station with an interval's record offered and taken by the summary and the open day (R52, R55, R58). -/
def intervalRecorded (o : OpenInterval) (fate : Fate) (s : State) : State :=
  (s.setPeriod { s.period with
    lastOwn := some o.id, openInterval := none, summary := s.period.summary.addInterval (intervalRecord o fate s),
    openDay := s.period.openDay.map (fun d => d.add (intervalRecord o fate s)) }).setStore
    { s.store with ownQueue := s.store.ownQueue ++ [makeSlot .interval (intervalData (intervalRecord o fate s))] }

/-- What an interval's last minute of the day closes too (R57). -/
def dayClosed (o : OpenInterval) (s : State) : State := if o.id.index = 47 then dayClose s else s

/-- What an interval's last minute of the year closes too (R60). -/
def yearClosed (o : OpenInterval) (s : State) : State := if o.id.index = 47 && lastOfYear o.id then yearClose s else s

theorem closeOpenInterval_of_room (o : OpenInterval) (fate : Fate) (h : s.ownRoom) :
    closeOpenInterval o fate s = yearClosed o (dayClosed o (intervalRecorded o fate s)) := by
  have hoffer := offerOwn_of_room (makeSlot .interval (intervalData (intervalRecord o fate s)))
    (s := s.setPeriod { s.period with lastOwn := some o.id, openInterval := none }) h
  unfold closeOpenInterval
  dsimp only
  rw [← intervalRecord, hoffer]
  rfl

theorem closeOpenInterval_inside (o : OpenInterval) (fate : Fate) (h : s.ownRoom) (hindex : o.id.index ≠ 47) :
    closeOpenInterval o fate s = intervalRecorded o fate s := by
  rw [closeOpenInterval_of_room o fate h, yearClosed, dayClosed, if_neg (by simp [hindex]), if_neg hindex]

/-! How many records the period unit and the plant signal unit can offer at once. -/

/-- The store as it was but for at most `n` records more at the back of the own record queue, and for losses. -/
def Offers (n : Nat) (s t : State) : Prop := ∃ queue losses, t.store = { s.store with ownQueue := queue, ownLosses := losses } ∧
  s.store.ownQueue <+: queue ∧ queue.length ≤ s.store.ownQueue.length + n

theorem Offers.of_store {t : State} (n : Nat) (h : t.store = s.store) : Offers n s t :=
  ⟨_, _, h, List.prefix_rfl, Nat.le_add_right ..⟩

theorem Offers.trans {n m : Nat} {t u : State} (h : Offers n s t) (h' : Offers m t u) : Offers (n + m) s u := by
  obtain ⟨queue, losses, hstore, hprefix, hlen⟩ := h
  obtain ⟨queue', losses', hstore', hprefix', hlen'⟩ := h'
  rw [hstore] at hstore' hprefix' hlen'
  exact ⟨queue', losses', hstore', hprefix.trans hprefix', hlen'.trans (by simp only; omega)⟩

theorem Offers.ownQueue_prefix {n : Nat} {t : State} (h : Offers n s t) : s.store.ownQueue <+: t.store.ownQueue := by
  obtain ⟨queue, losses, hstore, hprefix, -⟩ := h
  rw [hstore]
  exact hprefix

/-- A queue with more room than what was offered keeps room. -/
theorem Offers.ownRoom {n : Nat} {t : State} (h : Offers n s t) (hstore : s.store.failed = false)
    (hlen : s.store.ownQueue.length + n < 8) : t.ownRoom := by
  obtain ⟨queue, losses, heq, -, hle⟩ := h
  rw [State.ownRoom, heq]
  exact ⟨hstore, Nat.lt_of_le_of_lt hle hlen⟩

theorem offers_offerOwn (r : SlotImage) (s : State) : Offers 1 s (offerOwn r s) := by
  unfold offerOwn
  split
  · exact .of_store 1 rfl
  · split
    · exact ⟨_, _, rfl, List.prefix_append .., Nat.le_of_eq List.length_append⟩
    · exact ⟨_, _, rfl, List.prefix_rfl, Nat.le_succ _⟩

theorem offers_dayClose (s : State) : Offers 1 s (dayClose s) := by
  unfold dayClose
  split
  · exact .of_store 1 rfl
  · exact offers_offerOwn _ s

theorem offers_offerYear (year : Nat) (s : State) : Offers 2 s (offerYear year s) :=
  (offers_offerOwn _ s).trans (offers_offerOwn _ _)

theorem offers_yearClose (s : State) : Offers 2 s (yearClose s) := by
  unfold yearClose
  split
  · exact offers_offerYear _ s
  · exact .of_store 2 rfl

theorem Offers.ite {n : Nat} {c : Prop} [Decidable c] {f : State → State} (h : Offers n s (f s)) :
    Offers n s (if c then f s else s) := by
  split
  · exact h
  · exact .of_store n rfl

theorem offers_closings (o : OpenInterval) (s : State) : Offers 3 s (yearClosed o (dayClosed o s)) :=
  (Offers.ite (offers_dayClose s)).trans (Offers.ite (offers_yearClose _))

/-- With room for all it can offer, an interval close records the interval first, and leaves room for another record. -/
theorem closeOpenInterval_ownQueue (o : OpenInterval) (fate : Fate) (hstore : s.store.failed = false)
    (hlen : s.store.ownQueue.length ≤ 3) :
    s.store.ownQueue ++ [makeSlot .interval (intervalData (intervalRecord o fate s))] <+:
      (closeOpenInterval o fate s).store.ownQueue ∧ (closeOpenInterval o fate s).ownRoom := by
  have hroom : s.ownRoom := ⟨hstore, Nat.lt_of_le_of_lt hlen (by decide)⟩
  have hone : (intervalRecorded o fate s).store.ownQueue.length = s.store.ownQueue.length + 1 := List.length_append
  have hclosings := offers_closings o (intervalRecorded o fate s)
  rw [closeOpenInterval_of_room o fate hroom]
  exact ⟨hclosings.ownQueue_prefix, hclosings.ownRoom hstore (by omega)⟩

end Records

section Restart

variable {s : State}

theorem interruptPeriod_opened {o : OpenInterval} (hr : s.period.recording = .opened) (ho : s.period.openInterval = some o) :
    interruptPeriod s = (closeOpenInterval o .interrupted s).setPeriod
      { (closeOpenInterval o .interrupted s).period with recording := .off, openInterval := none } := by
  rw [interruptPeriod, hr, ho]

theorem interruptPeriod_waiting (hr : s.period.recording ≠ .opened) :
    interruptPeriod s = s.setPeriod { s.period with recording := .off, openInterval := none } := by
  unfold interruptPeriod
  split
  · contradiction
  · rfl

/-- R181: every window a RESTART finds becomes absent. -/
theorem keepWindows_none (r : Readout) {n : Nat} (hlo : 12 ≤ n) (hhi : n ≤ 15) :
    (r.keepWindows (fun _ => false)).window n = none := by
  have hgone : ∀ (r : Readout) (m : Nat), 12 ≤ m → (m = n ∨ r.window n = none) →
      (if (r.window m).all (fun _ => false) then r else r.setWindow m none).window n = none := fun r m hm h => by
    by_cases hmn : m = n
    · subst hmn
      split
      case isTrue hall => simpa using hall
      case isFalse =>
        by_cases hlen : m - 12 < r.windows.length
        · exact setWindow_window_self none hlen
        · simp [Readout.window, Readout.setWindow, List.getD_eq_getElem?_getD, hlen]
    · split
      · exact h.resolve_left hmn
      · rw [setWindow_window_of_ne none hm hlo (Ne.symm hmn)]
        exact h.resolve_left hmn
  rw [Readout.keepWindows]
  simp only [List.foldl_cons, List.foldl_nil]
  obtain rfl | rfl | rfl | rfl : n = 12 ∨ n = 13 ∨ n = 14 ∨ n = 15 := by omega
  · exact hgone _ 15 (by decide) (.inr (hgone _ 14 (by decide) (.inr (hgone _ 13 (by decide) (.inr
      (hgone _ 12 (by decide) (.inl rfl)))))))
  · exact hgone _ 15 (by decide) (.inr (hgone _ 14 (by decide) (.inr (hgone _ 13 (by decide) (.inl rfl)))))
  · exact hgone _ 15 (by decide) (.inr (hgone _ 14 (by decide) (.inl rfl)))
  · exact hgone _ 15 (by decide) (.inl rfl)

theorem enterState_ctrl (st : StationState) (s : State) : (enterState st s).ctrl = { s.ctrl with state := st } := rfl

/-- The RESTART notice (R191, R197). -/
def restartNotice (terminal : Nat) (s : State) : SlotImage :=
  noticeSlot s .restart (be 1 terminal ++ be 1 s.ctrl.state.code ++ optionIdBytes (interruptedId s.period))

theorem carryOutRestart_eq (terminal : Nat) (s : State) : carryOutRestart terminal s =
    ((offerOwn (restartNotice terminal s) (interruptPeriod (enterState .setup s))).setReadout
      (s.readout.keepWindows (fun _ => false))).setCtrl
      { s.ctrl with state := .setup, edit := s.config?.getD s.ctrl.edit } := by
  have hnotice : noticeSlot (interruptPeriod (enterState .setup s)) .restart (be 1 terminal ++ be 1 s.ctrl.state.code ++
      optionIdBytes (interruptedId s.period)) = restartNotice terminal s := by
    simp [noticeSlot, restartNotice, State.station]
  unfold carryOutRestart
  dsimp only
  rw [offerNotice, hnotice]
  apply state_ext <;> simp [enterState_ctrl, State.config?]

theorem linesAgree_carryOutRestart (terminal : Nat) (s : State) : (carryOutRestart terminal s).linesAgree :=
  linesAgree_invariant.setCtrl (linesAgree_invariant.setReadout _ (linesAgree_invariant.offerNotice _ _
    (linesAgree_invariant.interruptPeriod (linesAgree_driveOutputs _)))) _ rfl

theorem carryOutRestart_period (terminal : Nat) (s : State) :
    (carryOutRestart terminal s).period = (interruptPeriod (enterState .setup s)).period := by
  simp [carryOutRestart]

theorem carryOutRestart_store (terminal : Nat) (s : State) : (carryOutRestart terminal s).store =
    (offerOwn (restartNotice terminal s) (interruptPeriod (enterState .setup s))).store := by
  rw [carryOutRestart_eq]
  rfl

/-- R53, R191: out of OPEN the notice alone joins the own record queue. -/
theorem carryOutRestart_store_waiting (terminal : Nat) (hr : s.period.recording ≠ .opened) (hroom : s.ownRoom) :
    (carryOutRestart terminal s).store =
      { s.store with ownQueue := s.store.ownQueue ++ [restartNotice terminal s] } := by
  rw [carryOutRestart_store, interruptPeriod_waiting (s := enterState .setup s) hr, offerOwn_of_room]
  · rfl
  · exact hroom

/-- R53, R191: in OPEN the interval's record joins it first, and the notice comes last. -/
theorem carryOutRestart_ownQueue_opened (terminal : Nat) {o : OpenInterval} (hr : s.period.recording = .opened)
    (ho : s.period.openInterval = some o) (hstore : s.store.failed = false) (hlen : s.store.ownQueue.length ≤ 3) :
    (carryOutRestart terminal s).store.ownQueue =
        (closeOpenInterval o .interrupted (enterState .setup s)).store.ownQueue ++ [restartNotice terminal s] ∧
      s.store.ownQueue ++ [makeSlot .interval (intervalData (intervalRecord o .interrupted s))] <+:
        (closeOpenInterval o .interrupted (enterState .setup s)).store.ownQueue := by
  obtain ⟨hprefix, hroom⟩ := closeOpenInterval_ownQueue (s := enterState .setup s) o .interrupted hstore hlen
  refine ⟨?_, hprefix⟩
  rw [carryOutRestart_store, interruptPeriod_opened (s := enterState .setup s) hr ho, offerOwn_of_room]
  · rfl
  · exact hroom

/-- Settles O57. -/
theorem restartReturnsToSetup : Obligations.RestartReturnsToSetup := by
  intro sender target payload cfg s h hstate hcfg hroom
  have hs : s.serving := .inr hstate
  have htake : takeRestart sender.toNat s.frameOver = (carryOutRestart sender.toNat s.frameOver, .done) := by
    have hleft : s.frameOver.ctrl.state = s.ctrl.state := rfl
    rw [takeRestart, hleft]
    rcases hstate with hu | hr
    · rw [hu]
    · rw [hr]
  obtain ⟨l, heq, hanswers⟩ := receiveRequest_answered (takeRestart sender.toNat) h hs htake (by simp) hroom
  obtain ⟨hpermit, hfault⟩ := linesAgree_carryOutRestart sender.toNat s.frameOver
  have hperiod := carryOutRestart_period sender.toNat s.frameOver
  have hctrl : (carryOutRestart sender.toNat s.frameOver).ctrl = { s.ctrl with state := .setup, edit := cfg } := by
    rw [carryOutRestart_eq, show s.frameOver.config? = some cfg from hcfg]
    rfl
  have hreadout : (carryOutRestart sender.toNat s.frameOver).readout = s.readout.keepWindows (fun _ => false) := by
    rw [carryOutRestart_eq]
    rfl
  obtain ⟨c, hc⟩ : ∃ c, c = carryOutRestart sender.toNat s.frameOver := ⟨_, rfl⟩
  rw [← hc] at heq hanswers hpermit hfault hperiod hctrl hreadout
  refine ⟨c.setLink l, by rw [exec_eq_after, after]; exact congrArg _ heq, hctrl, ?_, ?_, ?_, ?_, ?_, ?_, ?_,
    fun o hr ho => ?_, fun n hlo hhi => ?_, hanswers, fun o hr ho hstore hlen => ?_, fun hr hown => ?_, ?_, ?_⟩
  · show c.plant.permit = false
    simp [hpermit, hctrl, decidePermit]
  · show c.plant.faultLine = true
    simp [hfault, hctrl, decideFault]
  · simp [hc]
  · simp [hc]
  · simp [hc]
  · exact congrArg Period.recording hperiod
  · exact congrArg Period.openInterval hperiod
  · show c.period.lastOwn = some o.id
    rw [hperiod, interruptPeriod_opened (s := enterState .setup s.frameOver) hr ho]
    exact closeOpenInterval_lastOwn ..
  · show c.readout.window n = none
    rw [hreadout, keepWindows_none _ hlo hhi]
  · obtain ⟨hqueue, hprefix⟩ := carryOutRestart_ownQueue_opened (s := s.frameOver) sender.toNat hr ho hstore hlen
    rw [← hc] at hqueue
    have hroomOwn : s.ownRoom := ⟨hstore, Nat.lt_of_le_of_lt hlen (by decide)⟩
    have hsummary : o.id.index ≠ 47 → c.period.summary =
        s.period.summary.addInterval (intervalRecord o .interrupted s) := fun hindex => by
      rw [hperiod, interruptPeriod_opened (s := enterState .setup s.frameOver) hr ho,
        closeOpenInterval_inside o .interrupted (s := enterState .setup s.frameOver) hroomOwn hindex]
      rfl
    have hlast : c.store.ownQueue.getLast? = some (restartNotice sender.toNat s.frameOver) := by
      rw [hqueue, List.getLast?_concat]
    have hnotice : restartNotice sender.toNat s.frameOver = makeSlot .notice (noticeData s.ctrl.station s.clock.time .restart
        (be 1 sender.toNat ++ be 1 s.ctrl.state.code ++ idBytes o.id)) := by
      rw [restartNotice, interruptedId, show s.frameOver.period.recording = .opened from hr,
        show s.frameOver.period.openInterval = some o from ho]
      rfl
    refine ⟨intervalRecord o .interrupted s, ?_, rfl, rfl, rfl, rfl, rfl, rfl, hlast.trans (congrArg some hnotice),
      fun hindex => ⟨?_, ?_, ?_, ?_⟩⟩
    · show c.store.ownQueue[s.store.ownQueue.length]? = _
      obtain ⟨later, hlater⟩ := hprefix
      rw [hqueue, ← hlater, List.append_assoc, List.append_assoc]
      exact List.getElem?_append_right (Nat.le_refl _) |>.trans (by rw [Nat.sub_self]; rfl)
    · show c.store.ownQueue.length = _
      rw [hqueue, closeOpenInterval_inside o .interrupted (s := enterState .setup s.frameOver) hroomOwn hindex,
        List.length_append]
      exact congrArg (· + 1) List.length_append
    · exact (congrArg YearSummary.interrupted (hsummary hindex)).trans rfl
    · exact (congrArg YearSummary.operating (hsummary hindex)).trans rfl
    · exact (congrArg YearSummary.abnormal (hsummary hindex)).trans rfl
  · show c.store = _
    have hnone : interruptedId s.frameOver.period = none := by
      rw [interruptedId]
      split
      · contradiction
      · rfl
    rw [hc, carryOutRestart_store_waiting (s := s.frameOver) _ hr hown, restartNotice, hnone]
    rfl
  · apply state_ext <;> simp [hc]
  · simp [hc]

end Restart

end Sys2Proof.Proofs

/-! Time acquired by a MARK and the start of recording (06, 03; R40 to R42, R103, R106). -/

namespace Sys2Proof.Proofs

open Sys2Proof.Machine Sys2Proof.Laws

section FirstInterval

variable {s : State}

/-! How many records precede the GAP notice (R41, R69, R73). -/

theorem offers_enterCutoff (cause : CutoffCause) (s : State) : Offers 1 s (enterCutoff cause s) := by
  have h := offers_offerOwn (noticeSlot (setMachine (.cutoff cause) s) .cutoff (be 1 cause.toCause.code ++
    be 2 s.plant.continuous ++ be 2 s.plant.yearCount ++ be 1 (levelsByte s.plant))) (setMachine (.cutoff cause) s)
  exact h.trans (.of_store 0 (by simp [enterCutoff]; rfl))

theorem offers_checkLimits (s : State) : Offers 2 s (checkLimits s) := by
  unfold checkLimits
  split
  · exact (offers_offerOwn _ s).trans (offers_enterCutoff _ _)
  · exact .of_store 2 rfl

theorem offers_countMinute (s : State) : Offers 2 s (countMinute s) := by
  rw [countMinute_eq]
  split
  · exact (Offers.of_store 0 rfl).trans (offers_checkLimits _)
  · exact .of_store 2 rfl

theorem offers_stopUntimedTimer (year : Nat) (s : State) : Offers 2 s (stopUntimedTimer year s) := by
  unfold stopUntimedTimer
  dsimp only
  split
  · exact (offers_countMinute s).trans (.of_store 0 (by simp))
  · exact .of_store 2 (by simp)

theorem offers_lateYear (x : Id) (entered : Bool) (s : State) :
    Offers (if entered then 0 else 2) s (lateYear x entered s) := by
  cases hyear : s.period.summaryYear with
  | none => exact .of_store _ (by simp [lateYear, hyear])
  | some y =>
    by_cases hlate : y < x.year
    · cases entered with
      | true => exact .of_store 0 (by simp [lateYear, hyear, hlate, restartSummary])
      | false =>
        rw [lateYear, hyear]
        dsimp only
        rw [if_pos hlate]
        exact offers_offerYear y s
    · exact .of_store _ (by simp [lateYear, hyear, hlate])

/-- R41: the late day and the late year are recorded with at most three records together. -/
theorem offers_closeLateDay (x : Id) (s : State) : Offers 3 s (lateYear x (closeLateDay x s).2 (closeLateDay x s).1) := by
  have hopen := offers_lateYear x false s
  unfold closeLateDay
  split
  · split
    · dsimp only
      split
      · exact ((offers_dayClose s).trans (offers_yearClose _)).trans (offers_lateYear x true _)
      · exact (offers_dayClose s).trans (offers_lateYear x false _)
    · exact (hopen.trans (.of_store 1 rfl))
  · exact (hopen.trans (.of_store 1 rfl))

/-- The gap before the first interval counted into the summary (R41). -/
def gapCounted (x : Id) (gap : Option Id) (s : State) : State :=
  match gap with
  | some l => countGap l x s
  | none => s

/-- The station with the day and the year brought up to the first interval, before the GAP notice (R41). -/
def broughtUp (x : Id) (s : State) : State :=
  let u := gapCounted x (gapBefore s.period x) s
  let v := firstSummaryYear x (lateYear x (closeLateDay x u).2 (closeLateDay x u).1)
  if s.period.summaryYear != some x.year && v.period.summaryYear == some x.year then
    gapCounted x (gapBefore s.period x) v
  else v

/-- The GAP notice offered where there is a gap (R42). -/
def gapOffered (x : Id) (gap : Option Id) (s : State) : State :=
  match gap with
  | some l => offerGap l x s
  | none => s

theorem openFirst_eq (x : Id) (isPartial : Bool) (s : State) :
    openFirst x isPartial s = openInterval x isPartial (gapOffered x (gapBefore s.period x) (broughtUp x s)) := by
  unfold openFirst broughtUp
  cases gapBefore s.period x with
  | none => simp [gapCounted, gapOffered]
  | some l => rfl

theorem gapCounted_store (x : Id) (gap : Option Id) (s : State) : (gapCounted x gap s).store = s.store := by
  cases gap with
  | none => rfl
  | some l => simp [gapCounted]

theorem offers_broughtUp (x : Id) (s : State) : Offers 3 s (broughtUp x s) := by
  have hcounted : Offers 0 s (gapCounted x (gapBefore s.period x) s) := .of_store 0 (gapCounted_store ..)
  have hclosed := hcounted.trans (offers_closeLateDay x (gapCounted x (gapBefore s.period x) s))
  unfold broughtUp
  dsimp only
  split
  · exact hclosed.trans (.of_store 0 (by simp [gapCounted_store]))
  · exact hclosed.trans (.of_store 0 (by simp))

theorem broughtUp_frame (x : Id) (s : State) : (broughtUp x s).clock = s.clock ∧ (broughtUp x s).ctrl = s.ctrl := by
  have hcounted : ∀ gap (u : State), (gapCounted x gap u).clock = u.clock ∧ (gapCounted x gap u).ctrl = u.ctrl := fun gap u => by
    cases gap with
    | none => exact ⟨rfl, rfl⟩
    | some l => simp [gapCounted]
  unfold broughtUp
  dsimp only
  split <;> simp [hcounted]

theorem offers_enterRecordingByTime (now : StationTime) (s : State) : Offers 4 s (enterRecordingByTime now s) := by
  unfold enterRecordingByTime
  split
  · rw [openFirst_eq]
    have hgap : Offers 1 (broughtUp now.interval s)
        (gapOffered now.interval (gapBefore s.period now.interval) (broughtUp now.interval s)) := by
      cases gapBefore s.period now.interval with
      | none => exact .of_store 1 rfl
      | some l => exact offers_offerOwn _ _
    exact ((offers_broughtUp now.interval s).trans hgap).trans (.of_store 0 (by simp))
  · exact .of_store 4 rfl

end FirstInterval

section AcquireTime

variable {s : State}

/-- R147: the day index year follows the clock. -/
theorem advanceIndexYear_store (year : Nat) (s : State) : (advanceIndexYear year s).store.failed = s.store.failed ∧
    (advanceIndexYear year s).store.ownQueue = s.store.ownQueue ∧
    (advanceIndexYear year s).store.indexYear = some (max (s.store.indexYear.getD 0) year) := by
  unfold advanceIndexYear
  split
  case isTrue hall =>
    refine ⟨rfl, rfl, ?_⟩
    cases hy : s.store.indexYear with
    | none => simp
    | some y =>
      have hlt : y < year := by simpa [hy] using hall
      simp [hlt.le]
  case isFalse hall =>
    refine ⟨rfl, rfl, ?_⟩
    cases hy : s.store.indexYear with
    | none => simp [hy] at hall
    | some y =>
      have hle : year ≤ y := by simpa [hy] using hall
      simp [hle]

/-- R67, R141, R147: what a setting of the clock does to the own record queue and the day index year. -/
theorem setTime_store (now : StationTime) (last : Option LastClosed) (s : State) :
    (setTime now last s).store.failed = s.store.failed ∧
      (setTime now last s).store.ownQueue.length ≤ s.store.ownQueue.length + 2 ∧
      (setTime now last s).store.indexYear = some (max (s.store.indexYear.getD 0) now.year) := by
  let u := stopUntimedTimer now.year ((s.setClock { s.clock with
    time := some now, minuteLength := 60, staged := none, lastClosed := last }).setIntake (intakeRestart s.intake))
  obtain ⟨queue, losses, hstore, -, hlen⟩ : Offers 2 s u := (Offers.of_store 0 rfl).trans (offers_stopUntimedTimer ..)
  obtain ⟨hfailed, hqueue, hyear⟩ := advanceIndexYear_store now.year (beginFireSeen u)
  have hbefore : (beginFireSeen u).store = u.store := rfl
  rw [hbefore, hstore] at hfailed hqueue hyear
  have hset : setTime now last s = recheckStalled (advanceIndexYear now.year (beginFireSeen u)) := rfl
  rw [hset]
  refine ⟨hfailed, ?_, hyear⟩
  show (advanceIndexYear now.year (beginFireSeen u)).store.ownQueue.length ≤ _
  rw [hqueue]
  exact hlen

theorem startTime_interval (i : Id) : i.startTime.interval = i := by
  simp [StationTime.interval, Id.startTime]

/-- The station with the clock set and RECORDING entered, before the period unit decides (R40, R101). -/
def timeAcquired (now : StationTime) (last : Option LastClosed) (s : State) : State :=
  enterState .recording (setTime now last s)

theorem acquireTime_eq (now : StationTime) (last : Option LastClosed) (s : State) :
    acquireTime now last s = enterRecordingByTime now (timeAcquired now last s) := rfl

theorem timeAcquired_lastOwn (now : StationTime) (last : Option LastClosed) (s : State) :
    (timeAcquired now last s).period.lastOwn = s.period.lastOwn := by
  simp [timeAcquired]

/-- R40: an interval opened at its first second, after the last own one, is empty and not PARTIAL. -/
theorem enterRecordingByTime_start {x : Id} (h : ∀ l, s.period.lastOwn = some l → l.before x = true) :
    enterRecordingByTime x.startTime s = openFirst x false s := by
  have hqualifies : qualifies s.period x = true := by
    unfold qualifies
    cases hl : s.period.lastOwn with
    | none => rfl
    | some l => exact h l hl
  unfold enterRecordingByTime
  rw [startTime_interval, if_pos hqualifies]
  simp [Id.startTime, StationTime.second]

theorem enterRecordingByTime_waits {x l : Id} (hl : s.period.lastOwn = some l) (h : l.before x = false) :
    (enterRecordingByTime x.startTime s).period.recording = .waiting := by
  unfold enterRecordingByTime
  rw [startTime_interval, if_neg (by simp [qualifies, hl, h])]
  rfl

/-- R42: the GAP notice is queued where there is room for it. -/
theorem gap_mem_openFirst {x l : Id} (isPartial : Bool) (hl : s.period.lastOwn = some l)
    (hgap : intervalNumber l + 1 < intervalNumber x) (hstore : s.store.failed = false)
    (hlen : s.store.ownQueue.length ≤ 4) :
    noticeSlot s .gap (idBytes l.nextInterval ++ idBytes x.previousInterval ++
      be 4 (intervalNumber x - intervalNumber l - 1)) ∈ (openFirst x isPartial s).store.ownQueue := by
  have hbefore : gapBefore s.period x = some l := by
    rw [gapBefore, hl]
    exact if_pos hgap
  obtain ⟨hclock, hctrl⟩ := broughtUp_frame x s
  have hroom : (broughtUp x s).ownRoom := (offers_broughtUp x s).ownRoom hstore (by omega)
  rw [openFirst_eq, hbefore]
  simp only [openInterval_frame, gapOffered, offerGap, offerNotice, noticeSlot, State.station, hclock, hctrl]
  rw [offerOwn_ownQueue_of_room _ hroom]
  exact List.mem_append_right _ (List.mem_singleton.mpr rfl)

theorem linesAgree_acquireTime (now : StationTime) (last : Option LastClosed) (s : State) :
    (acquireTime now last s).linesAgree :=
  linesAgree_invariant.enterRecordingByTime now (linesAgree_driveOutputs _)

/-- R106: a usable MARK heard in UNTIMED sets the clock to the interval after it. -/
theorem exec_mark_untimed {sender target : Byte} {payload : List Byte} (h : s.receives .mark sender target payload)
    (hstate : s.ctrl.state = .untimed) (husable : usableMark (markId payload) = true) :
    exec (.mark sender target payload) s = .next (acquireTime (markId payload).nextInterval.startTime
      (some { id := markId payload, elapsed := 0 }) s.frameOver) := by
  rw [exec_eq_after, after, receiveKind_receives h (by simp [hstate]), takeMark,
    show s.frameOver.ctrl.state = .untimed from hstate]
  exact congrArg _ (if_pos husable)

/-- Settles O34. -/
theorem markAcquiresTimeInUntimed : Obligations.MarkAcquiresTimeInUntimed := by
  intro sender target payload s h hstate husable
  let x := (markId payload).nextInterval
  let last : Option LastClosed := some { id := markId payload, elapsed := 0 }
  let v := timeAcquired x.startTime last s.frameOver
  have hclock : v.clock = { s.clock with time := some x.startTime, minuteLength := 60, staged := none, lastClosed := last } :=
    by simp [v, timeAcquired, setTime_clock]
  have hlast : v.period.lastOwn = s.period.lastOwn := timeAcquired_lastOwn ..
  obtain ⟨hfailed, hlen, hyear⟩ := setTime_store x.startTime last s.frameOver
  obtain ⟨hpermit, hfault⟩ := linesAgree_acquireTime x.startTime last s.frameOver
  have hctrl := acquireTime_ctrl x.startTime last s.frameOver
  obtain ⟨queue, losses, hstore, -⟩ := offers_enterRecordingByTime x.startTime v
  refine ⟨_, exec_mark_untimed h hstate husable, acquireTime_clock .., hctrl, fun e he => ?_,
    acquireTime_untimed .., ?_, ?_, ?_, ?_, ?_, ?_, ?_, ?_, fun hafter => ?_, fun l hl hnot => ?_,
    fun l hl hbefore hgap hok hroom => ?_, fun hnone => ?_, fun y hy => ?_⟩
  · rw [show acquireTime x.startTime last s.frameOver = enterRecordingByTime x.startTime v from rfl,
      show (enterRecordingByTime x.startTime v).intake = (setTime x.startTime last s.frameOver).intake by simp [v, timeAcquired],
      setTime_channels] at he
    obtain ⟨e', -, rfl⟩ := List.mem_map.mp he
    rfl
  · simp [acquireTime, setTime, beginFireSeen]
  · show (acquireTime x.startTime last s.frameOver).plant.permit =
      !(acquireTime x.startTime last s.frameOver).plant.machine.isCutoff
    rw [hpermit, hctrl]
    simp [decidePermit]
  · show (acquireTime x.startTime last s.frameOver).plant.faultLine =
      (acquireTime x.startTime last s.frameOver).plant.recordLoss
    rw [hfault, hctrl]
    simp [decideFault]
  · simp
  · simp
  · simp
  · simp
  · simp
  · rw [acquireTime_eq, enterRecordingByTime_start (fun l hl => hafter l (hlast.symm.trans hl))]
    exact ⟨rfl, _, rfl, rfl, rfl, rfl, rfl, rfl⟩
  · rw [acquireTime_eq]
    exact enterRecordingByTime_waits (hlast.trans hl) hnot
  · have hopen : enterRecordingByTime x.startTime v = openFirst x false v :=
      enterRecordingByTime_start fun l' hl' => by
        obtain rfl := Option.some.inj (hl.symm.trans (hlast.symm.trans hl'))
        exact hbefore
    have hmem := gap_mem_openFirst (s := v) false (hlast.trans hl) hgap (hfailed.trans hok)
      (hlen.trans (Nat.add_le_add_right hroom 2))
    have htime : (acquireTime x.startTime last s.frameOver).clock.time = v.clock.time := by
      rw [acquireTime_clock, hclock]
    have hstation : v.ctrl.station = s.ctrl.station := by simp [v, timeAcquired]
    rw [noticeSlot, State.station, hstation] at hmem
    rw [htime, acquireTime_eq, hopen]
    exact hmem
  · rw [acquireTime_eq, hstore]
    exact hyear.trans (by rw [show s.frameOver.store.indexYear = none from hnone]; simp [x, Id.startTime])
  · rw [acquireTime_eq, hstore]
    exact hyear.trans (by rw [show s.frameOver.store.indexYear = some y from hy]; rfl)

end AcquireTime

end Sys2Proof.Proofs

/-! The minute close of the station clock (06; R99, R100): its order of blocks, and what the intake and normalisation units
make of it. -/

namespace Sys2Proof.Proofs

open Sys2Proof.Machine Sys2Proof.Laws

section MinuteClose

variable {s : State} {now : StationTime}

/-- The station with the minute measured and the interval closed where the minute is its last (R47, R100, R102). -/
def intervalStepped (now : StationTime) (s : State) : State :=
  if now.minute % 30 = 29 then closeInterval false now.interval now.nextMinute.interval (minuteMeasured now s)
  else minuteMeasured now s

/-- The station after the close of the minute `now` (R100). -/
def minuteClosed (now : StationTime) (s : State) : State :=
  if now.minute = 1439 then
    storeDayClose now.nextMinute.year
      (offerAdjust s.clock.staged (plantMinuteClose now.nextMinute.year (intervalStepped now s)))
  else offerAdjust s.clock.staged (plantMinuteClose now.nextMinute.year (intervalStepped now s))

theorem closeMinute_eq (htime : s.clock.time = some now) : closeMinute false s = minuteClosed now s := by
  rw [closeMinute, htime]
  rfl

/-- A minute close does not depend on the second at which it is commanded. -/
theorem minuteClosed_congr {t : StationTime} (hyear : t.year = now.year) (hday : t.day = now.day)
    (hminute : t.minute = now.minute) : minuteClosed t s = minuteClosed now s := by
  have hnext : t.nextMinute = now.nextMinute := by simp [StationTime.nextMinute, hyear, hday, hminute]
  have hid : t.minuteId = now.minuteId := by simp [StationTime.minuteId, hyear, hday, hminute]
  have hinterval : t.interval = now.interval := by simp [StationTime.interval, hyear, hday, hminute]
  simp only [minuteClosed, intervalStepped, minuteMeasured, Clock.close, hnext, hid, hinterval, hminute]

theorem advance_fields (t : StationTime) (len dt : Nat) :
    (t.advance len dt).year = t.year ∧ (t.advance len dt).day = t.day ∧ (t.advance len dt).minute = t.minute := by
  unfold StationTime.advance
  split <;> exact ⟨rfl, rfl, rfl⟩

/-- R99, R100: the time the minute still had to run passes, and it closes. -/
theorem exec_minuteClose (htime : s.clock.time = some now) (hrange : now.atRangeEnd = false) :
    exec .minuteClose s = .next (minuteClosed now (elapse (s.clock.missing now) s)) := by
  have hremaining : s.clock.remaining = s.clock.missing now := by rw [Clock.remaining, htime, Clock.missing]
  obtain ⟨hyear, hday, hminute⟩ := advance_fields now s.clock.minuteLength (s.clock.missing now)
  have helapsed : (elapse (s.clock.missing now) s).clock.time = some (now.advance s.clock.minuteLength (s.clock.missing now)) :=
    by simp [elapse_clock, htime]
  rw [exec_eq_after, after, minuteEnds, htime]
  dsimp only
  rw [if_neg (by simp [hrange]), hremaining, closeMinute_eq helapsed, minuteClosed_congr hyear hday hminute]

/-- The blocks after the measuring ones and the interval close touch the plant signals, the year summary and the record store
alone. -/
theorem minuteClosed_frame (now : StationTime) (s : State) : (minuteClosed now s).intake = (minuteMeasured now s).intake ∧
    (minuteClosed now s).norm = (minuteMeasured now s).norm ∧ (minuteClosed now s).share = (minuteMeasured now s).share ∧
    (minuteClosed now s).link = (intervalStepped now s).link ∧ (minuteClosed now s).clock = s.clock.close now ∧
    (minuteClosed now s).mirror = s.mirror ∧ (minuteClosed now s).readout = s.readout ∧
    (minuteClosed now s).ctrl = s.ctrl ∧ (minuteClosed now s).freeCount = s.freeCount ∧
    (minuteClosed now s).pending = s.pending := by
  have hstepped : (intervalStepped now s).intake = (minuteMeasured now s).intake ∧
      (intervalStepped now s).norm = (minuteMeasured now s).norm ∧
      (intervalStepped now s).share = (minuteMeasured now s).share ∧ (intervalStepped now s).clock = s.clock.close now ∧
      (intervalStepped now s).mirror = s.mirror ∧ (intervalStepped now s).readout = s.readout ∧
      (intervalStepped now s).ctrl = s.ctrl ∧ (intervalStepped now s).freeCount = s.freeCount ∧
      (intervalStepped now s).pending = s.pending := by
    unfold intervalStepped
    split <;> simp [minuteMeasured]
  unfold minuteClosed
  split <;> simp [hstepped]

/-! What the measuring blocks make of the minute, with a configuration in force. -/

variable {cfg : ConfigImage}

/-- The peripherals of the closing minute and the held values after it (R22, R24). -/
def peripheralsOf (cfg : ConfigImage) (s : State) : Peripherals × Norm := takePeripherals s.norm s.intake cfg

/-- The result of the closing minute (R36). -/
def resultOf (m : MinuteId) (cfg : ConfigImage) (s : State) : MinuteResult :=
  minuteResult m s.intake cfg (peripheralsOf cfg s).1 (decideShare s.share s.station m)

/-- The own report of the closing minute (R116). -/
def reportOf (m : MinuteId) (cfg : ConfigImage) (s : State) : LoadReport :=
  ownReport m s.share.fireSeen (cfg.load.bind (channelValue s.intake cfg))

/-- The station with the share decided and the result taken, before the own report is written. -/
def resultTaken (m : MinuteId) (cfg : ConfigImage) (s : State) : State :=
  (takeMinute (resultOf m cfg s)
    ((if cfg.stackGroup = 0 then s else s.setShare { s.share with lastShare := decideShare s.share s.station m }).setNorm
      (peripheralsOf cfg s).2)).setIntake (intakeClose s.intake cfg)

theorem closeMeasurement_configured (m : MinuteId) (hcfg : s.config? = some cfg) :
    closeMeasurement m s = beginFireSeen (shareMinuteClose (reportOf m cfg s) (resultTaken m cfg s)) := by
  rw [closeMeasurement, hcfg]
  dsimp only
  unfold resultTaken resultOf reportOf peripheralsOf
  split <;> simp

/-- The station when the measuring blocks close the minute (R66 step 1, R100). -/
def minuteBegun (now : StationTime) (s : State) : State := copyClosedFlags (s.setClock (s.clock.close now))

theorem minuteMeasured_configured (now : StationTime) (hcfg : s.config? = some cfg) : minuteMeasured now s =
    beginFireSeen (shareMinuteClose (reportOf now.minuteId cfg s) (resultTaken now.minuteId cfg (minuteBegun now s))) :=
  closeMeasurement_configured now.minuteId (s := minuteBegun now s) hcfg

/-! The held peripherals (R24). -/

theorem minuteClosed_norm (now : StationTime) (hcfg : s.config? = some cfg) :
    (minuteClosed now s).norm = (takePeripherals s.norm s.intake cfg).2 := by
  obtain ⟨-, hnorm, -⟩ := minuteClosed_frame now s
  rw [hnorm, minuteMeasured_configured now hcfg]
  simp [resultTaken, peripheralsOf, minuteBegun]

theorem holdPeripheral_valid {v : MinuteValue} {m : Int} (limit : Nat) (h : HeldValue) (hstate : v.state = .valid)
    (hmean : v.mean = some m) : holdPeripheral true (some v) limit h =
      (some { value := m, clamped := v.clamped, held := false }, { value := some m, clamped := v.clamped, age := 0 }) := by
  obtain ⟨mean, count, state, clamped, overflow, crowded⟩ := v
  subst hstate
  subst hmean
  rfl

theorem holdPeripheral_held {v : MinuteValue} (limit : Nat) (h : HeldValue) (hstate : v.state ≠ .valid) :
    (holdPeripheral true (some v) limit h).2 =
      if h.value.isSome && decide (h.age < limit) then { h with age := h.age + 1 } else h := by
  obtain ⟨mean, count, state, clamped, overflow, crowded⟩ := v
  unfold holdPeripheral
  rw [if_neg (by simp)]
  split
  case h_1 heq =>
    cases heq
    exact absurd rfl hstate
  case h_2 =>
    cases hv : h.value with
    | none => rfl
    | some x => by_cases hage : h.age < limit <;> simp [hage]

theorem holds_holdPeripheral (s : State) (cfg : ConfigImage) (role : Option Nat) (h : HeldValue) : s.holds cfg role h
    (holdPeripheral role.isSome (role.bind (channelValue s.intake cfg)) cfg.holdMinutes h).2 := by
  refine ⟨fun hrole => by rw [hrole]; rfl, fun ch e hrole he => ?_⟩
  have hvalue : role.bind (channelValue s.intake cfg) = some (e.minuteValue cfg.minReadings) := by
    rw [hrole, Option.bind_some, channelValue, he, Option.map_some]
  rw [hvalue, hrole, Option.isSome_some]
  refine ⟨fun m hstate hmean => ?_, fun hstate hnone => ?_, fun v hstate hv => ?_⟩
  · rw [holdPeripheral_valid _ h hstate hmean]
    rfl
  · rw [holdPeripheral_held _ h hstate, hnone]
    rfl
  · rw [holdPeripheral_held _ h hstate, hv]
    simp

/-- Settles O13. -/
theorem minuteCloseHoldsThePeripherals : Obligations.MinuteCloseHoldsThePeripherals := by
  intro s now cfg htime hrange hcfg
  refine ⟨_, exec_minuteClose htime hrange, ?_⟩
  have hnorm : (minuteClosed now (elapse (s.clock.missing now) s)).norm = (takePeripherals s.norm s.intake cfg).2 := by
    rw [minuteClosed_norm now (s := elapse (s.clock.missing now) s) (cfg := cfg) ((config?_congr (by simp)).trans hcfg)]
    simp
  rw [hnorm]
  exact ⟨holds_holdPeripheral .., holds_holdPeripheral .., holds_holdPeripheral .., holds_holdPeripheral ..,
    holds_holdPeripheral ..⟩

end MinuteClose

end Sys2Proof.Proofs

/-! The next minute: its clock, its flags, and what the close offers on the line (06, 04, 05; R65, R66, R99, R102, R117). -/

namespace Sys2Proof.Proofs

open Sys2Proof.Machine Sys2Proof.Laws

section NextMinute

variable {s : State} {now : StationTime}

/-! The plant signals (R65, R66). -/

theorem minuteClosed_plant (now : StationTime) (s : State) :
    (minuteClosed now s).plant.closedOperating = s.plant.operating ∧
    (minuteClosed now s).plant.closedAbnormal = s.plant.abnormalFlag ∧
    (minuteClosed now s).plant.fire = s.plant.fire ∧ (minuteClosed now s).plant.feed = s.plant.feed ∧
    (minuteClosed now s).plant.clean = s.plant.clean ∧ (minuteClosed now s).plant.trip = s.plant.trip := by
  have hstepped : (intervalStepped now s).plant.closedOperating = s.plant.operating ∧
      (intervalStepped now s).plant.closedAbnormal = s.plant.abnormalFlag ∧
      (intervalStepped now s).plant.fire = s.plant.fire ∧ (intervalStepped now s).plant.feed = s.plant.feed ∧
      (intervalStepped now s).plant.clean = s.plant.clean ∧ (intervalStepped now s).plant.trip = s.plant.trip := by
    unfold intervalStepped
    split <;> simp [minuteMeasured] <;> exact ⟨rfl, rfl⟩
  unfold minuteClosed
  split <;> simp [hstepped]

/-- R65: the flags of the minute that begins follow the levels and the machine as the close leaves it. -/
theorem minuteClosed_flags (now : StationTime) (s : State) :
    (minuteClosed now s).plant.operating = s.plant.feed ∧ (minuteClosed now s).plant.abnormalFlag =
      ((minuteClosed now s).plant.machine == .abnormal ||
        ((minuteClosed now s).plant.machine.isCutoff && s.plant.clean && s.plant.fire)) := by
  have hbegun : ∀ (year : Nat) (u : State), (plantMinuteClose year u).plant.operating = u.plant.feed ∧
      (plantMinuteClose year u).plant.abnormalFlag = ((plantMinuteClose year u).plant.machine == .abnormal ||
        ((plantMinuteClose year u).plant.machine.isCutoff && u.plant.clean && u.plant.fire)) := fun year u => by
    simp [plantMinuteClose, beginMinuteFlags, beginFlags]
  have hlevels : (intervalStepped now s).plant.fire = s.plant.fire ∧ (intervalStepped now s).plant.feed = s.plant.feed ∧
      (intervalStepped now s).plant.clean = s.plant.clean := by
    unfold intervalStepped
    split <;> simp [minuteMeasured]
  unfold minuteClosed
  split <;> simp [hbegun, hlevels]

/-! What a minute close can offer (R95, R102, R117). -/

/-- A link controller to whose queue at most `n` entries have been offered now, and nothing else done. -/
structure Broadcasts (n : Nat) (l l' : Link) : Prop where
  timer : l'.deadlineTimer = l.deadlineTimer
  queue : ∀ x ∈ l'.queue, x ∈ l.queue ∨ x.offered = l.deadlineTimer
  expired : l'.expiredFrames = l.expiredFrames
  room : l.queue.length + n ≤ 8 → l'.resultMisses = l.resultMisses ∧ l'.queue.length ≤ l.queue.length + n

theorem Broadcasts.refl (n : Nat) (l : Link) : Broadcasts n l l :=
  ⟨rfl, fun _ hx => .inl hx, rfl, fun _ => ⟨rfl, Nat.le_add_right ..⟩⟩

theorem Broadcasts.trans {n m : Nat} {l l' l'' : Link} (h : Broadcasts n l l') (h' : Broadcasts m l' l'') :
    Broadcasts (n + m) l l'' where
  timer := h'.timer.trans h.timer
  queue x hx := (h'.queue x hx).elim (h.queue x) fun hoffered => .inr (hoffered.trans h.timer)
  expired := h'.expired.trans h.expired
  room hlen := by
    obtain ⟨hmisses, hlen₁⟩ := h.room (by omega)
    obtain ⟨hmisses', hlen₂⟩ := h'.room (by omega)
    exact ⟨hmisses'.trans hmisses, by omega⟩

theorem broadcasts_offerBroadcast (k : FrameKind) (payload : List Byte) (s : State) :
    Broadcasts 1 s.link (offerBroadcast k payload s).link where
  timer := joinQueue_now ..
  queue x hx := (mem_joinQueue hx).imp_right fun hnew => by rw [hnew]; rfl
  expired := by rw [offerBroadcast, joinQueue_link]
  room hlen := by
    rw [offerBroadcast, joinQueue_room _ _ (by omega)]
    refine ⟨rfl, ?_⟩
    rw [List.length_append]
    exact Nat.add_le_add_right (List.length_filter_le ..) 1

theorem closeMeasurement_unconfigured (m : MinuteId) (hcfg : s.config? = none) :
    closeMeasurement m s = beginFireSeen (s.setIntake (intakeClose s.intake {})) := by
  rw [closeMeasurement, hcfg]

/-- R117: the own report written into the own entry. -/
def reportWritten (r : LoadReport) (s : State) : State :=
  s.setShare (s.share.setEntry s.station (some (writeOwnEntry s.stackGroup r (s.share.entry s.station))))

theorem shareMinuteClose_eq (r : LoadReport) (s : State) : shareMinuteClose r s =
    if s.stackGroup = 0 then s
    else if s.ctrl.state = .recording then offerBroadcast .load (loadPayload s.stackGroup r) (reportWritten r s)
    else reportWritten r s := rfl

theorem resultTaken_frame (m : MinuteId) (cfg : ConfigImage) (s : State) : (resultTaken m cfg s).link = s.link ∧
    (resultTaken m cfg s).ctrl = s.ctrl ∧ (resultTaken m cfg s).plant = s.plant := by
  unfold resultTaken
  split <;> simp

theorem broadcasts_closeMeasurement (m : MinuteId) (s : State) : Broadcasts 1 s.link (closeMeasurement m s).link := by
  cases hcfg : s.config? with
  | none =>
    rw [closeMeasurement_unconfigured m hcfg]
    exact .refl 1 _
  | some cfg =>
    obtain ⟨hbefore, -⟩ := resultTaken_frame m cfg s
    rw [closeMeasurement_configured m hcfg, ← hbefore]
    simp only [beginFireSeen_frame]
    rw [shareMinuteClose_eq]
    split
    · exact .refl 1 _
    · split
      · exact broadcasts_offerBroadcast .load _ (reportWritten (reportOf m cfg s) (resultTaken m cfg s))
      · exact .refl 1 _

theorem broadcasts_intervalStepped (now : StationTime) (s : State) : Broadcasts 2 s.link (intervalStepped now s).link := by
  have hmeasured : Broadcasts 1 s.link (minuteMeasured now s).link := by
    have hbegun : (copyClosedFlags (s.setClock (s.clock.close now))).link = s.link := by simp
    rw [← hbegun]
    exact broadcasts_closeMeasurement ..
  refine hmeasured.trans (m := 1) ?_
  unfold intervalStepped
  split
  · unfold closeInterval
    dsimp only
    have hinterval : (periodIntervalClose false now.nextMinute.interval (minuteMeasured now s)).link =
        (minuteMeasured now s).link := by simp
    rw [← hinterval]
    split
    · exact broadcasts_offerBroadcast ..
    · exact .refl 1 _
  · exact .refl 1 _

/-- Out of RECORDING a minute close offers nothing. -/
theorem intervalStepped_link_silent (now : StationTime) (hstate : s.ctrl.state ≠ .recording) :
    (intervalStepped now s).link = s.link := by
  have hmeasured : (minuteMeasured now s).link = s.link := by
    have hbegun : (minuteBegun now s).link = s.link := by simp [minuteBegun]
    cases hcfg : s.config? with
    | none =>
      have hmeasured : minuteMeasured now s = _ := closeMeasurement_unconfigured now.minuteId (s := minuteBegun now s) hcfg
      rw [hmeasured]
      exact hbegun
    | some cfg =>
      obtain ⟨hlink, hctrl, -⟩ := resultTaken_frame now.minuteId cfg (minuteBegun now s)
      have hsilent : (resultTaken now.minuteId cfg (minuteBegun now s)).ctrl.state ≠ .recording := by
        rw [hctrl]
        exact hstate
      rw [minuteMeasured_configured now hcfg]
      simp only [beginFireSeen_frame]
      rw [shareMinuteClose_eq, if_neg hsilent]
      split
      · exact hlink.trans hbegun
      · exact hlink.trans hbegun
  have hctrl : (minuteMeasured now s).ctrl.state ≠ .recording := by simpa [minuteMeasured] using hstate
  unfold intervalStepped
  split
  · simp [closeInterval, hctrl, hmeasured]
  · exact hmeasured

theorem minuteClosed_channels (now : StationTime) (s : State) :
    (minuteClosed now s).intake.channels = s.intake.channels.map ChannelEntry.closed := by
  obtain ⟨hintake, -⟩ := minuteClosed_frame now s
  rw [hintake]
  exact (closeMeasurement_channels ..).trans (by simp)

/-- R115: the fire-seen flag of the minute that begins. -/
theorem closeMeasurement_fireSeen (m : MinuteId) (s : State) : (closeMeasurement m s).share.fireSeen = s.plant.fire := by
  cases hcfg : s.config? with
  | none =>
    rw [closeMeasurement_unconfigured m hcfg]
    rfl
  | some cfg =>
    obtain ⟨-, -, hplant⟩ := resultTaken_frame m cfg s
    have hbegins : ∀ u : State, (beginFireSeen u).share.fireSeen = u.plant.fire := fun _ => rfl
    rw [closeMeasurement_configured m hcfg, hbegins]
    simp [hplant]

theorem minuteClosed_die (now : StationTime) (s : State) : (minuteClosed now s).store.die = s.store.die := by
  have hstepped : (intervalStepped now s).store.die = s.store.die := by
    unfold intervalStepped
    split <;> simp [minuteMeasured]
  unfold minuteClosed
  split <;> simp [hstepped]

/-- Settles O11. -/
theorem minuteCloseEntersTheNextMinute : Obligations.MinuteCloseEntersTheNextMinute := by
  refine ⟨fun s now htime hrange => ?_, fun s htime => ?_, fun s now htime hrange => ?_⟩
  · obtain ⟨v, hv⟩ : ∃ v, v = elapse (s.clock.missing now) s := ⟨_, rfl⟩
    have hexec := exec_minuteClose htime hrange
    rw [← hv] at hexec
    obtain ⟨-, -, hshare, hlink, hclock, hmirror, hreadout, hctrl, hfree, hpending⟩ := minuteClosed_frame now v
    obtain ⟨hoperating, habnormal, hfire, hfeed, hclean, htrip⟩ := minuteClosed_plant now v
    obtain ⟨hflag, habnormalFlag⟩ := minuteClosed_flags now v
    obtain ⟨htimer, hqueue, hexpired, hroom⟩ := broadcasts_intervalStepped now v
    have hvclock : v.clock = { s.clock with
        time := s.clock.time.map (fun t => t.advance s.clock.minuteLength (s.clock.missing now)),
        lastClosed := s.clock.lastClosed.map (fun l => { l with elapsed := l.elapsed + s.clock.missing now }) } := by
      rw [hv, elapse_clock]
    have hvplant : v.plant.operating = s.plant.operating ∧ v.plant.abnormalFlag = s.plant.abnormalFlag ∧
        v.plant.fire = s.plant.fire ∧ v.plant.feed = s.plant.feed ∧ v.plant.clean = s.plant.clean ∧
        v.plant.trip = s.plant.trip := by simp [hv]
    have hvframe : v.mirror = s.mirror ∧ v.readout = s.readout ∧ v.ctrl = s.ctrl ∧ v.freeCount = s.freeCount ∧
        v.pending = s.pending := by simp [hv]
    obtain ⟨hvoperating, hvabnormal, hvfire, hvfeed, hvclean, hvtrip⟩ := hvplant
    obtain ⟨hvqueue, hvexpired, hvmisses⟩ : s.link.expiresOver v.link (s.clock.missing now) := hv ▸ elapse_expiresOver ..
    have hvtimer : v.link.deadlineTimer = s.link.deadlineTimer + s.clock.missing now := by simp [hv]
    have hexpired' := (congrArg Link.expiredFrames hlink).trans (hexpired.trans hvexpired)
    rw [← htimer, ← hlink] at hvtimer
    refine ⟨_, hexec, by rw [hclock]; rfl, fun hnone => ?_, fun a ha => ?_, by rw [hclock]; rfl, ?_, fun hlast => ?_,
      hoperating.trans hvoperating, habnormal.trans hvabnormal, hflag.trans hvfeed, ?_, hfire.trans hvfire,
      hfeed.trans hvfeed, hclean.trans hvclean, htrip.trans hvtrip, fun e he => ?_, ?_, hvtimer, fun x hx => ?_, hexpired',
      fun hquiet => ⟨hexpired', ?_⟩, ?_, ?_⟩
    · rw [hclock, hvclock]
      exact congrArg nextLength hnone
    · rw [hclock, hvclock]
      exact congrArg nextLength ha
    · rw [hclock, hvclock]
      rfl
    · rw [hclock]
      exact if_pos hlast
    · rw [habnormalFlag, hvclean, hvfire]
    · rw [minuteClosed_channels] at he
      obtain ⟨e', -, rfl⟩ := List.mem_map.mp he
      rfl
    · rw [hshare, minuteMeasured, closeMeasurement_fireSeen]
      simpa using hvfire
    · rw [hlink] at hx
      rcases hqueue x hx with hold | hnew
      · rw [hvqueue, List.mem_filter] at hold
        obtain ⟨hmem, hkept⟩ := hold
        refine .inr ⟨hmem, ?_⟩
        rw [hvtimer]
        simpa using hkept
      · rw [hlink, htimer]
        exact .inl hnew
    · rw [hlink, ← hvmisses]
      rcases hquiet with hlen | hstate
      · have hshort : v.link.queue.length ≤ s.link.queue.length := by
          rw [hvqueue]
          exact List.length_filter_le ..
        obtain ⟨hmisses, -⟩ := hroom (by omega)
        exact hmisses
      · rw [intervalStepped_link_silent now (by rwa [hv])]
    · apply state_ext <;> simp [hmirror, hreadout, hctrl, hfree, hpending, hvframe]
    · rw [minuteClosed_die, hv]
      simp
  · rw [exec_eq_after, after, minuteEnds, htime]
  · rw [exec_eq_after, after, minuteEnds, htime]
    exact congrArg _ (if_pos hrange)

end NextMinute

end Sys2Proof.Proofs

/-! The load share at a minute close (07; R116, R117, R120 to R123). -/

namespace Sys2Proof.Proofs

open Sys2Proof.Machine Sys2Proof.Laws

section ShareClose

variable {s : State} {now : StationTime} {cfg : ConfigImage}

/-- L_own of a report (R121). -/
def ownLoad (r : LoadReport) : Nat := if r.status = .operating then r.load else 0

/-- The loads the peers add to L_total (R122). -/
def peerLoad (u : ShareUnit) (station : Nat) (m : MinuteId) : Nat :=
  ((peerContributions u station m).map (fun p => p.1)).sum

theorem decideShare_eq {u : ShareUnit} {station : Nat} {m : MinuteId} {r : LoadReport}
    (hr : (u.entry station).bind (ownReportFor m) = some r) (hvalid : r.status ≠ .invalid) :
    decideShare u station m = if ownLoad r + peerLoad u station m = 0 then none
      else some { own := ownLoad r, total := ownLoad r + peerLoad u station m,
                  substituted := (peerContributions u station m).any (fun p => p.2) } := by
  rw [decideShare, hr]
  dsimp only
  cases hstatus : r.status with
  | invalid => exact absurd hstatus hvalid
  | operating => simp only [ownLoad, peerLoad, hstatus]
  | stopped => simp only [ownLoad, peerLoad, hstatus]

/-- R121, R123: what a valid share is made of. -/
theorem decideShare_some {u : ShareUnit} {station : Nat} {m : MinuteId} {x : Share} (h : decideShare u station m = some x) :
    ∃ e r, u.entry station = some e ∧ ownReportFor m e = some r ∧ r.status ≠ .invalid ∧ x.own = ownLoad r ∧
      x.total = x.own + peerLoad u station m ∧ 0 < x.total := by
  cases hr : (u.entry station).bind (ownReportFor m) with
  | none =>
    rw [decideShare, hr] at h
    cases h
  | some r =>
    obtain ⟨e, he, hfor⟩ := Option.bind_eq_some_iff.mp hr
    have hvalid : r.status ≠ .invalid := fun hstatus => by
      rw [decideShare, hr] at h
      dsimp only at h
      rw [hstatus] at h
      cases h
    rw [decideShare_eq hr hvalid] at h
    by_cases htotal : ownLoad r + peerLoad u station m = 0
    · rw [if_pos htotal] at h
      cases h
    · rw [if_neg htotal] at h
      cases h
      exact ⟨e, r, he, hfor, hvalid, rfl, rfl, Nat.pos_of_ne_zero htotal⟩

/-! The own report (R116). -/

theorem ownReport_minute (m : MinuteId) (fireSeen : Bool) (load : Option MinuteValue) :
    (ownReport m fireSeen load).minute = m := by
  unfold ownReport
  (repeat' split) <;> rfl

theorem ownReport_valid {v : MinuteValue} {x : Nat} (m : MinuteId) (hstate : v.state = .valid) (hmean : v.mean = some (x : Int)) :
    ownReport m true (some v) = { minute := m, load := x, status := .operating } := by
  obtain ⟨mean, count, state, clamped, overflow, crowded⟩ := v
  subst hstate
  subst hmean
  rfl

theorem ownReport_notValid {v : MinuteValue} (m : MinuteId) (hstate : v.state ≠ .valid) :
    ownReport m true (some v) = { minute := m, load := 0, status := .invalid } := by
  unfold ownReport
  rw [if_neg (by simp)]
  split
  case h_1 heq =>
    cases heq
    exact absurd rfl hstate
  case h_2 => rfl

theorem reportOf_minute (m : MinuteId) (cfg : ConfigImage) (s : State) : (reportOf m cfg s).minute = m := ownReport_minute ..

theorem reportOf_measured {ch : Nat} {e : ChannelEntry} (m : MinuteId) (hload : cfg.load = some ch)
    (he : s.intake.channels[ch]? = some e) (hseen : s.share.fireSeen = true) :
    reportOf m cfg s = ownReport m true (some (e.minuteValue cfg.minReadings)) := by
  rw [reportOf, hload, Option.bind_some, channelValue, he, hseen, Option.map_some]

/-! The table and the LOAD (R117, R123). -/

/-- The station with the closing minute's result taken. -/
def minuteTaken (now : StationTime) (cfg : ConfigImage) (s : State) : State := resultTaken now.minuteId cfg (minuteBegun now s)

theorem minuteTaken_frame (now : StationTime) (cfg : ConfigImage) (s : State) :
    (minuteTaken now cfg s).ctrl = s.ctrl ∧ (minuteTaken now cfg s).link = s.link ∧
      (minuteTaken now cfg s).plant.fire = s.plant.fire := by
  obtain ⟨hlink, hctrl, hplant⟩ := resultTaken_frame now.minuteId cfg (minuteBegun now s)
  rw [minuteTaken, hlink, hctrl, hplant]
  simp [minuteBegun]

theorem minuteTaken_share (now : StationTime) (s : State) (hgroup : cfg.stackGroup ≠ 0) :
    (minuteTaken now cfg s).share = { s.share with lastShare := decideShare s.share s.ctrl.station now.minuteId } := by
  simp only [minuteTaken, resultTaken]
  rw [if_neg hgroup]
  simp [minuteBegun, State.station]

theorem minuteTaken_stackGroup (now : StationTime) (hcfg : s.config? = some cfg) :
    (minuteTaken now cfg s).stackGroup = cfg.stackGroup := by
  obtain ⟨hctrl, -⟩ := minuteTaken_frame now cfg s
  rw [State.stackGroup, State.config, config?_congr hctrl, hcfg]
  rfl

/-- R117: with a stack group in force the own report is written and, in RECORDING, offered. -/
theorem minuteMeasured_reported (now : StationTime) (hcfg : s.config? = some cfg) (hgroup : cfg.stackGroup ≠ 0) :
    minuteMeasured now s = beginFireSeen (if s.ctrl.state = .recording then
        offerBroadcast .load (loadPayload cfg.stackGroup (reportOf now.minuteId cfg s))
          (reportWritten (reportOf now.minuteId cfg s) (minuteTaken now cfg s))
      else reportWritten (reportOf now.minuteId cfg s) (minuteTaken now cfg s)) := by
  obtain ⟨hctrl, -⟩ := minuteTaken_frame now cfg s
  have hgroup' := minuteTaken_stackGroup now hcfg
  rw [minuteMeasured_configured now hcfg, ← minuteTaken, shareMinuteClose_eq, hgroup', if_neg hgroup, hctrl]

theorem reportWritten_share (r : LoadReport) (hcfg : s.config? = some cfg) (hgroup : cfg.stackGroup ≠ 0) :
    (reportWritten r (minuteTaken now cfg s)).share = { s.share.setEntry s.ctrl.station
        (some (writeOwnEntry cfg.stackGroup r (s.share.entry s.ctrl.station))) with
      lastShare := decideShare s.share s.ctrl.station now.minuteId } := by
  obtain ⟨hctrl, -⟩ := minuteTaken_frame now cfg s
  rw [reportWritten, minuteTaken_stackGroup now hcfg, minuteTaken_share now s hgroup, State.station, hctrl]
  rfl

/-- R117, R123: the share unit after a minute close with a stack group in force. -/
theorem minuteMeasured_share (now : StationTime) (hcfg : s.config? = some cfg) (hgroup : cfg.stackGroup ≠ 0) :
    ∃ seen, (minuteMeasured now s).share = { s.share.setEntry s.ctrl.station
        (some (writeOwnEntry cfg.stackGroup (reportOf now.minuteId cfg s) (s.share.entry s.ctrl.station))) with
      lastShare := decideShare s.share s.ctrl.station now.minuteId, fireSeen := seen } := by
  have hbegins : ∀ u : State, (beginFireSeen u).share = { u.share with fireSeen := u.plant.fire } := fun _ => rfl
  rw [minuteMeasured_reported now hcfg hgroup, hbegins]
  split
  · simp only [offerBroadcast_frame]
    rw [reportWritten_share _ hcfg hgroup]
    exact ⟨_, rfl⟩
  · rw [reportWritten_share _ hcfg hgroup]
    exact ⟨_, rfl⟩

/-- The LOAD of an own report (R117, R197). -/
def loadEntry (group : Nat) (r : LoadReport) (now : Nat) : TxEntry :=
  { kind := .load, target := 0, payload := loadPayload group r, terminal := none, offered := now, deadline := now + 30000000 }

/-- R95: an entry that a MARK does not replace stays where there is room for the MARK. -/
theorem mem_offerBroadcast_mark {e : TxEntry} (payload : List Byte) (he : e ∈ s.link.queue) (hk : e.kind ≠ .mark)
    (hlen : s.link.queue.length < 8) : e ∈ (offerBroadcast .mark payload s).link.queue := by
  rw [offerBroadcast, joinQueue_room _ _ hlen]
  refine List.mem_append_left _ (List.mem_filter.mpr ⟨he, ?_⟩)
  have hother : (e.kind == FrameKind.mark) = false := by simpa using hk
  simp [TxEntry.replaces, FrameKind.frameClass, hother]

/-- R117: with room for it the LOAD stands at the back of the queue when the measuring blocks are done. -/
theorem minuteMeasured_load (now : StationTime) (hcfg : s.config? = some cfg) (hgroup : cfg.stackGroup ≠ 0)
    (hstate : s.ctrl.state = .recording) (hlen : s.link.queue.length < 7) :
    loadEntry cfg.stackGroup (reportOf now.minuteId cfg s) s.now ∈ (minuteMeasured now s).link.queue ∧
      (minuteMeasured now s).link.queue.length < 8 := by
  let u := reportWritten (reportOf now.minuteId cfg s) (minuteTaken now cfg s)
  obtain ⟨-, hlink, -⟩ := minuteTaken_frame now cfg s
  have hulink : u.link = s.link := hlink
  have hunow : u.now = s.now := congrArg Link.deadlineTimer hulink
  have hmeasured : (minuteMeasured now s).link = (offerBroadcast .load
      (loadPayload cfg.stackGroup (reportOf now.minuteId cfg s)) u).link := by
    rw [minuteMeasured_reported now hcfg hgroup, if_pos hstate]
    rfl
  have hroom := (broadcasts_offerBroadcast .load (loadPayload cfg.stackGroup (reportOf now.minuteId cfg s)) u).room
    (by rw [hulink]; omega)
  rw [hulink] at hroom
  rw [hmeasured]
  refine ⟨?_, by omega⟩
  rw [offerBroadcast, joinQueue_room _ _ (by rw [hulink]; omega), hunow]
  exact List.mem_append_right _ (List.mem_singleton.mpr rfl)

theorem load_mem_intervalStepped (now : StationTime) (hcfg : s.config? = some cfg) (hgroup : cfg.stackGroup ≠ 0)
    (hstate : s.ctrl.state = .recording) (hlen : s.link.queue.length < 7) :
    loadEntry cfg.stackGroup (reportOf now.minuteId cfg s) s.now ∈ (intervalStepped now s).link.queue := by
  obtain ⟨hmem, hroom⟩ := minuteMeasured_load now hcfg hgroup hstate hlen
  have hlink : (periodIntervalClose false now.nextMinute.interval (minuteMeasured now s)).link =
      (minuteMeasured now s).link := by simp
  unfold intervalStepped
  split
  · unfold closeInterval
    dsimp only
    rw [← hlink] at hmem hroom
    split
    · exact mem_offerBroadcast_mark _ hmem nofun hroom
    · exact hmem
  · exact hmem

/-- Settles O39. -/
theorem ownLoadNeverExceedsTheTotal : Obligations.OwnLoadNeverExceedsTheTotal := by
  refine ⟨fun u station m x hx => ?_, advance_entry, ?_⟩
  · obtain ⟨e, r, he, hfor, hvalid, hown, htotal, hpos⟩ := decideShare_some hx
    exact ⟨htotal ▸ Nat.le_add_right .., hpos, e, r, he, hfor, hvalid, hown, htotal⟩
  · intro s now cfg htime hrange hcfg hgroup hsize hlo hhi hlen
    obtain ⟨v, hv⟩ : ∃ v, v = elapse (s.clock.missing now) s := ⟨_, rfl⟩
    have hexec := exec_minuteClose htime hrange
    rw [← hv] at hexec
    obtain ⟨-, -, hshare, hlink, -⟩ := minuteClosed_frame now v
    have hvctrl : v.ctrl = s.ctrl := by simp [hv]
    have hvcfg : v.config? = some cfg := (config?_congr hvctrl).trans hcfg
    have hvshare : v.share = s.share.advance (s.clock.missing now) := by rw [hv, elapse_share]
    have hvseen : v.share.fireSeen = s.share.fireSeen := by rw [hvshare]; rfl
    have hvsize : v.share.entries.length = 8 := by rw [hvshare]; exact (List.length_map _).trans hsize
    have hvintake : v.intake = s.intake := by simp [hv]
    have hvlink : s.link.expiresOver v.link (s.clock.missing now) := hv ▸ elapse_expiresOver ..
    obtain ⟨seen, hclosed⟩ := minuteMeasured_share now hvcfg hgroup
    rw [hvctrl] at hclosed
    refine ⟨_, reportOf now.minuteId cfg v, v.share, hexec, hvshare, ?_, ?_, reportOf_minute .., fun hseen => ?_,
      fun ch e hseen hload he => ⟨fun m hstate hmean => ?_, fun hstate => ?_⟩, fun n hn hne => ?_, fun hstate => ?_,
      fun hstate => ?_⟩
    · rw [hshare, hclosed]
    · rw [hshare, hclosed]
      exact setEntry_entry_self (v := v.share) _ (by omega)
    · rw [reportOf, hvseen, hseen]
      exact ⟨rfl, rfl⟩
    · rw [reportOf_measured _ hload (hvintake ▸ he) (hvseen.trans hseen), ownReport_valid _ hstate hmean]
      exact ⟨rfl, rfl⟩
    · rw [reportOf_measured _ hload (hvintake ▸ he) (hvseen.trans hseen), ownReport_notValid _ hstate]
      exact ⟨rfl, rfl⟩
    · rw [hshare, hclosed]
      exact setEntry_entry_of_ne (v := v.share) _ hlo hn hne
    · have hshort : v.link.queue.length ≤ s.link.queue.length := by
        rw [hvlink.1]
        exact List.length_filter_le ..
      have hpayload : loadPayload cfg.stackGroup (reportOf now.minuteId cfg v) = be 1 cfg.stackGroup ++
          minuteIdBytes now.minuteId ++ be 3 (reportOf now.minuteId cfg v).load ++
          be 1 (reportOf now.minuteId cfg v).status.code := by
        rw [loadPayload, reportOf_minute]
      rw [hlink]
      exact ⟨_, load_mem_intervalStepped now hvcfg hgroup (hvctrl ▸ hstate) (by omega), rfl, rfl, rfl, hpayload, rfl⟩
    · rw [hlink, intervalStepped_link_silent now (hvctrl ▸ hstate)]
      exact hvlink

end ShareClose

end Sys2Proof.Proofs

/-! The minute taken by the open interval (03, 02; R26, R28 to R36, R44, R45). -/

namespace Sys2Proof.Proofs

open Sys2Proof.Machine Sys2Proof.Laws

section Normalisation

variable {s : State} {cfg : ConfigImage}

theorem clampTo_eq {lo hi : Int} (h : lo ≤ hi) (x : Int) : clampTo lo hi x = max lo (min hi x) := by
  unfold clampTo
  split
  · omega
  · split <;> omega

theorem saturate32_within {x : Int} (h : x.natAbs ≤ 2147483647) : saturate32 x = (x, false) := by
  have hlo : ¬limit32 < x := by simp only [limit32]; omega
  have hhi : ¬x < -limit32 := by simp only [limit32]; omega
  rw [saturate32, if_neg hlo, if_neg hhi]

theorem saturate32_beyond {x : Int} (h : ¬x.natAbs ≤ 2147483647) : (saturate32 x).2 = true := by
  unfold saturate32
  split
  · rfl
  · rename_i hlo
    simp only [limit32] at hlo
    rw [if_pos (by simp only [limit32]; omega)]

/-! What is measured in the minute (R16, R24). -/

theorem channelValue_measured {role : Option Nat} {x : Int} (h : s.measured cfg role x) :
    ∃ v, role.bind (channelValue s.intake cfg) = some v ∧ v.state = .valid ∧ v.mean = some x := by
  obtain ⟨ch, e, rfl, he, hstate, hmean⟩ := h
  exact ⟨_, by rw [Option.bind_some, channelValue, he, Option.map_some], hstate, hmean⟩

/-- R24: a measured peripheral is direct. -/
theorem holdPeripheral_measured {role : Option Nat} {x : Int} (held : HeldValue) (h : s.measured cfg role x) :
    ∃ clamped, (holdPeripheral role.isSome (role.bind (channelValue s.intake cfg)) cfg.holdMinutes held).1 =
      some { value := x, clamped := clamped, held := false } := by
  obtain ⟨v, hv, hstate, hmean⟩ := channelValue_measured h
  have hrole : role.isSome = true := by
    cases role with
    | none => cases hv
    | some ch => rfl
  rw [hrole, hv, holdPeripheral_valid _ held hstate hmean]
  exact ⟨_, rfl⟩

/-- The value a peripheral is taken with, 0 for one that is unavailable. -/
def takenAs (p : Option Peripheral) : Int := (p.map (fun q => q.value)).getD 0

/-- A peripheral available with this value. -/
def available (p : Option Peripheral) (x : Int) : Prop := ∃ q, p = some q ∧ q.value = x

theorem available_clamped {p : Option Peripheral} {lo hi x : Int} {clamped held : Bool} (hle : lo ≤ hi)
    (hp : p = some { value := x, clamped := clamped, held := held }) :
    available (p.map (fun q => q.clampedTo lo hi)) (max lo (min hi x)) := by
  subst hp
  exact ⟨_, rfl, clampTo_eq hle x⟩

theorem peripheralsOf_o2 {x : Int} (h : s.measured cfg cfg.o2 x) :
    available (peripheralsOf cfg s).1.o2 (max 0 (min (cfg.o2Cap : Int) x)) := by
  obtain ⟨clamped, heq⟩ := holdPeripheral_measured s.norm.o2 h
  exact available_clamped (Int.natCast_nonneg _) heq

theorem peripheralsOf_h2o {x : Int} (h : s.measured cfg cfg.h2o x) :
    available (peripheralsOf cfg s).1.h2o (max 0 (min 4000 x)) := by
  obtain ⟨clamped, heq⟩ := holdPeripheral_measured s.norm.h2o h
  exact available_clamped (by decide) heq

theorem peripheralsOf_temp {x : Int} (h : s.measured cfg cfg.temp x) :
    available (peripheralsOf cfg s).1.temp (max (-400) (min 6000 x)) := by
  obtain ⟨clamped, heq⟩ := holdPeripheral_measured s.norm.temp h
  exact available_clamped (by decide) heq

theorem peripheralsOf_press {x : Int} (h : s.measured cfg cfg.press x) :
    available (peripheralsOf cfg s).1.press (max 8000 (min 12000 x)) := by
  obtain ⟨clamped, heq⟩ := holdPeripheral_measured s.norm.press h
  exact available_clamped (by decide) heq

theorem peripheralsOf_flow {x : Int} (h : s.measured cfg cfg.flow x) : available (peripheralsOf cfg s).1.flow x := by
  obtain ⟨clamped, heq⟩ := holdPeripheral_measured s.norm.flow h
  exact ⟨_, heq, rfl⟩

theorem takenAs_available {p : Option Peripheral} {x : Int} (h : available p x) : takenAs p = x := by
  obtain ⟨q, rfl, hq⟩ := h
  exact hq

/-! The three steps (R28 to R31). -/

/-- c1 before it saturates (R29). -/
def standardised (c : ComponentConfig) (mean t p : Int) : Int :=
  if c.actual then roundDiv (mean * (2 * t + 5463) * 20265) (5463 * (2 * p)).toNat else mean

/-- c2 before it saturates (R30). -/
def dried (c : ComponentConfig) (c1 h : Int) : Int := if c.wet then roundDiv (c1 * 10000) (10000 - h).toNat else c1

/-- c3 before it saturates (R31). -/
def referred (c : ComponentConfig) (cfg : ConfigImage) (c2 o : Int) : Int :=
  if c.aboveOnly = false ∨ cfg.o2Reference < o then roundDiv (c2 * (2100 - cfg.o2Reference)) (2100 - o).toNat else c2

/-- A step taken saturates; a step skipped does not (R28). -/
def saturatedIf (taken : Bool) (x : Int) : Int × Bool := if taken then saturate32 x else (x, false)

theorem saturatedIf_within {taken : Bool} {x : Int} (h : taken = true → x.natAbs ≤ 2147483647) :
    saturatedIf taken x = (x, false) := by
  cases taken with
  | true => exact saturate32_within (h rfl)
  | false => rfl

theorem saturatedIf_beyond {taken : Bool} {x : Int} (h : ¬(taken = true → x.natAbs ≤ 2147483647)) :
    (saturatedIf taken x).2 = true := by
  cases taken with
  | true => exact saturate32_beyond fun hle => h fun _ => hle
  | false => exact absurd nofun h

theorem step3Applies_iff (aboveOnly : Bool) (o r : Int) : step3Applies aboveOnly o r = true ↔ aboveOnly = false ∨ r < o := by
  simp [step3Applies]

theorem normalise_eq (c : ComponentConfig) (cfg : ConfigImage) (p : Peripherals) (mean : Int) : normalise c cfg p mean =
    let r1 := saturatedIf c.actual (standardised c mean (takenAs p.temp) (takenAs p.press))
    let r2 := saturatedIf c.wet (dried c r1.1 (takenAs p.h2o))
    let r3 := saturatedIf (step3Applies c.aboveOnly (takenAs p.o2) cfg.o2Reference) (referred c cfg r2.1 (takenAs p.o2))
    (r2.1, r3.1, r1.2 || r2.2 || r3.2) := by
  have h1 : ∀ x y, (if c.actual then step1 mean x y else (mean, false)) = saturatedIf c.actual (standardised c mean x y) :=
    fun x y => by cases hc : c.actual <;> simp [saturatedIf, standardised, step1, hc]
  have h2 : ∀ c1 x, (if c.wet then step2 c1 x else (c1, false)) = saturatedIf c.wet (dried c c1 x) := fun c1 x => by
    cases hc : c.wet <;> simp [saturatedIf, dried, step2, hc]
  have h3 : ∀ c2 x, (if step3Applies c.aboveOnly x cfg.o2Reference then step3 c2 x cfg.o2Reference else (c2, false)) =
      saturatedIf (step3Applies c.aboveOnly x cfg.o2Reference) (referred c cfg c2 x) := fun c2 x => by
    rw [referred]
    simp only [← step3Applies_iff]
    cases step3Applies c.aboveOnly x cfg.o2Reference <;> simp [saturatedIf, step3]
  simp only [normalise, h1, h2, h3, takenAs]

section Steps

variable {c : ComponentConfig} {p : Peripherals} {mean c1 c2 c3 : Int}
  (h1 : c1 = standardised c mean (takenAs p.temp) (takenAs p.press)) (h2 : c2 = dried c c1 (takenAs p.h2o))
  (h3 : c3 = referred c cfg c2 (takenAs p.o2))

include h1 h2 h3

theorem normalise_within (hw1 : c.actual = true → c1.natAbs ≤ 2147483647) (hw2 : c.wet = true → c2.natAbs ≤ 2147483647)
    (hw3 : c.aboveOnly = false ∨ cfg.o2Reference < takenAs p.o2 → c3.natAbs ≤ 2147483647) :
    normalise c cfg p mean = (c2, c3, false) := by
  rw [← step3Applies_iff] at hw3
  rw [normalise_eq, ← h1, saturatedIf_within hw1]
  dsimp only
  rw [← h2, saturatedIf_within hw2]
  dsimp only
  rw [← h3, saturatedIf_within hw3]
  rfl

/-- R28: one step whose exact result lies beyond is enough for the minute to be FAULT. -/
theorem normalise_beyond (h : ¬((c.actual = true → c1.natAbs ≤ 2147483647) ∧ (c.wet = true → c2.natAbs ≤ 2147483647) ∧
    (c.aboveOnly = false ∨ cfg.o2Reference < takenAs p.o2 → c3.natAbs ≤ 2147483647))) :
    (normalise c cfg p mean).2.2 = true := by
  rw [← step3Applies_iff] at h
  rw [normalise_eq, ← h1]
  dsimp only
  by_cases hw1 : c.actual = true → c1.natAbs ≤ 2147483647
  · rw [saturatedIf_within hw1]
    dsimp only
    rw [← h2]
    by_cases hw2 : c.wet = true → c2.natAbs ≤ 2147483647
    · rw [saturatedIf_within hw2]
      dsimp only
      rw [← h3, saturatedIf_beyond fun hw3 => h ⟨hw1, hw2, hw3⟩]
      rfl
    · rw [saturatedIf_beyond hw2]
      rfl
  · rw [saturatedIf_beyond hw1]
    rfl

end Steps

/-! The flow (R33, R34). -/

theorem normalisedFlow_none (h : cfg.flow = none) : normalisedFlow cfg (peripheralsOf cfg s).1 = none := by
  have hflow : (peripheralsOf cfg s).1.flow = none := by
    show (holdPeripheral cfg.flow.isSome _ _ _).1 = none
    rw [h]
    rfl
  unfold normalisedFlow
  rw [hflow]
  split <;> rfl

theorem normalisedFlow_measured {q qn : Int} (hq : s.measured cfg cfg.flow q)
    (hbasis : match cfg.flowBasis with
      | .stdDry => qn = q
      | .actualWet => ∃ t p h, s.measured cfg cfg.temp t ∧ s.measured cfg cfg.press p ∧ s.measured cfg cfg.h2o h ∧
          qn = roundDiv (q * 5463 * (2 * max 8000 (min 12000 p)) * (10000 - max 0 (min 4000 h)))
            ((2 * max (-400) (min 6000 t) + 5463) * 20265 * 10000).toNat) :
    ∃ held, normalisedFlow cfg (peripheralsOf cfg s).1 = some (qn, held) := by
  obtain ⟨x, hx, rfl⟩ := peripheralsOf_flow hq
  unfold normalisedFlow
  rw [hx]
  cases hb : cfg.flowBasis with
  | stdDry =>
    rw [hb] at hbasis
    exact ⟨_, congrArg some (Prod.ext hbasis.symm rfl)⟩
  | actualWet =>
    rw [hb] at hbasis
    obtain ⟨t, p, h, ht, hp, hh, rfl⟩ := hbasis
    obtain ⟨xt, hxt, ht⟩ := peripheralsOf_temp ht
    obtain ⟨xp, hxp, hp⟩ := peripheralsOf_press hp
    obtain ⟨xh, hxh, hh⟩ := peripheralsOf_h2o hh
    dsimp only
    rw [hxt, hxp, hxh]
    dsimp only
    rw [ht, hp, hh]
    exact ⟨_, rfl⟩

theorem apportionedFlow_apportioned {now : StationTime} {qs : Int} (h : s.apportioned cfg now qs) :
    ∃ q, apportionedFlow cfg (normalisedFlow cfg (peripheralsOf cfg s).1)
      (decideShare (s.share.advance (s.clock.missing now)) s.ctrl.station now.minuteId) = some q ∧ q.value = qs := by
  obtain ⟨q, qn, -, hq, hbasis, hshare⟩ := h
  obtain ⟨held, hqn⟩ := normalisedFlow_measured hq hbasis
  rw [hqn]
  unfold apportionedFlow
  dsimp only
  split
  case isTrue hgroup =>
    rw [if_pos hgroup] at hshare
    exact ⟨_, rfl, hshare.symm⟩
  case isFalse hgroup =>
    rw [if_neg hgroup] at hshare
    obtain ⟨x, hx, rfl⟩ := hshare
    rw [hx]
    exact ⟨_, rfl, rfl⟩

/-! The component minute and its accumulator (R27, R32, R35, R44). -/

theorem componentMinute_valid {c : ComponentConfig} {p : Peripherals} {v : MinuteValue} {mean : Int} (qs : Option ShareFlow)
    (hstate : v.state = .valid) (hmean : v.mean = some mean)
    (hcomplete : (componentPeripherals c p).all (fun d => d.isSome) = true) :
    (componentMinute c cfg p qs v).c3 = some (normalise c cfg p mean).2.1 ∧
    (componentMinute c cfg p qs v).state = (if (normalise c cfg p mean).2.2 then .fault else .valid) ∧
    (componentMinute c cfg p qs v).mass =
      if (normalise c cfg p mean).2.2 then none else qs.map (fun q => minuteMass (normalise c cfg p mean).1 q.value) := by
  obtain ⟨vmean, count, state, clamped, overflow, crowded⟩ := v
  subst hstate
  subst hmean
  unfold componentMinute
  dsimp only
  rw [hcomplete]
  dsimp only
  generalize normalise c cfg p mean = r
  obtain ⟨c2, c3, saturated⟩ := r
  cases saturated with
  | true => exact ⟨rfl, rfl, rfl⟩
  | false =>
    cases qs with
    | none => exact ⟨rfl, rfl, rfl⟩
    | some q => exact ⟨rfl, rfl, rfl⟩

theorem take_valid (a : ComponentAcc) {c : ComponentMinute} {x : Int} (hstate : c.state = .valid) (hx : c.c3 = some x) :
    (a.take c).sum = a.sum + x ∧ (a.take c).valid = a.valid + 1 ∧ (a.take c).maint = a.maint ∧
      (a.take c).fault = a.fault := by
  unfold ComponentAcc.take
  rw [hstate, hx]
  dsimp only
  split <;> exact ⟨rfl, rfl, rfl, rfl⟩

theorem take_fault (a : ComponentAcc) {c : ComponentMinute} (hstate : c.state = .fault) :
    (a.take c).sum = a.sum ∧ (a.take c).valid = a.valid ∧ (a.take c).maint = a.maint ∧
      (a.take c).fault = a.fault + 1 := by
  unfold ComponentAcc.take
  rw [hstate]
  dsimp only
  split <;> exact ⟨rfl, rfl, rfl, rfl⟩

theorem take_mass_some (a : ComponentAcc) {c : ComponentMinute} {g : Nat} (hmass : c.mass = some g) :
    (a.take c).massSum = a.massSum + g ∧ (a.take c).massCount = a.massCount + 1 := by
  unfold ComponentAcc.take
  rw [hmass]
  dsimp only
  split <;> exact ⟨rfl, rfl⟩

theorem take_mass_none (a : ComponentAcc) {c : ComponentMinute} (hmass : c.mass = none) :
    (a.take c).massSum = a.massSum ∧ (a.take c).massCount = a.massCount := by
  unfold ComponentAcc.take
  rw [hmass]
  dsimp only
  split <;> exact ⟨rfl, rfl⟩

theorem takeComponents_getElem? {as : List (Option ComponentAcc)} {cs : List (Option ComponentMinute)} {n : Nat}
    {a : ComponentAcc} {c : ComponentMinute} (ha : as[n]? = some (some a)) (hc : cs[n]? = some (some c)) :
    (takeComponents as cs)[n]? = some (some (a.take c)) := by
  induction as generalizing n cs with
  | nil => simp at ha
  | cons x xs ih =>
    cases cs with
    | nil => simp at hc
    | cons y ys =>
      cases n with
      | zero =>
        obtain rfl : x = some a := by simpa using ha
        obtain rfl : y = some c := by simpa using hc
        rfl
      | succ n =>
        rw [List.getElem?_cons_succ] at ha hc
        have htail := ih ha hc
        cases x with
        | none => exact htail
        | some a' =>
          cases y with
          | none => exact htail
          | some c' => exact htail

end Normalisation

end Sys2Proof.Proofs

/-! A minute close inside the open interval (03; R9, R44, R45). -/

namespace Sys2Proof.Proofs

open Sys2Proof.Machine Sys2Proof.Laws

section MinuteTaken

variable {s : State} {now : StationTime} {cfg : ConfigImage}

/-! What a component measured in the minute brings (R26 to R32, R35). -/

/-- What a component's means and peripherals come to, each step exact (R29 to R31). -/
structure Steps (cc : ComponentConfig) (cfg : ConfigImage) (c o2 h warmth force c1 c2 c3 : Int) : Prop where
  first : c1 = standardised cc c warmth force
  second : c2 = dried cc c1 h
  third : c3 = referred cc cfg c2 o2

/-- R28: every step taken stays within the limit. -/
def stepsWithin (cc : ComponentConfig) (cfg : ConfigImage) (o2 c1 c2 c3 : Int) : Prop :=
  (cc.actual = true → c1.natAbs ≤ 2147483647) ∧ (cc.wet = true → c2.natAbs ≤ 2147483647) ∧
    ((cc.aboveOnly = false ∨ cfg.o2Reference < o2) → c3.natAbs ≤ 2147483647)

section Component

variable {cc : ComponentConfig} {c o2 h warmth force c1 c2 c3 : Int} {p : Peripherals}

theorem normalise_steps (hsteps : Steps cc cfg c o2 h warmth force c1 c2 c3) (ho2 : available p.o2 o2)
    (hwet : cc.wet = true → available p.h2o h)
    (hactual : cc.actual = true → available p.temp warmth ∧ available p.press force) :
    (stepsWithin cc cfg o2 c1 c2 c3 → normalise cc cfg p c = (c2, c3, false)) ∧
      (¬stepsWithin cc cfg o2 c1 c2 c3 → (normalise cc cfg p c).2.2 = true) := by
  obtain ⟨h1, h2, h3⟩ := hsteps
  have hfirst : c1 = standardised cc c (takenAs p.temp) (takenAs p.press) := by
    rw [h1, standardised, standardised]
    split
    case isTrue ha => rw [takenAs_available (hactual ha).1, takenAs_available (hactual ha).2]
    case isFalse => rfl
  have hsecond : c2 = dried cc c1 (takenAs p.h2o) := by
    rw [h2, dried, dried]
    split
    case isTrue hw => rw [takenAs_available (hwet hw)]
    case isFalse => rfl
  rw [← takenAs_available ho2] at h3 ⊢
  exact ⟨fun ⟨hw1, hw2, hw3⟩ => normalise_within hfirst hsecond h3 hw1 hw2 hw3, normalise_beyond hfirst hsecond h3⟩

theorem componentPeripherals_available (ho2 : available p.o2 o2) (hwet : cc.wet = true → available p.h2o h)
    (hactual : cc.actual = true → available p.temp warmth ∧ available p.press force) :
    (componentPeripherals cc p).all (fun d => d.isSome) = true := by
  have hsome : ∀ {q : Option Peripheral} {x : Int}, available q x → q.isSome = true := by
    rintro _ _ ⟨y, rfl, -⟩
    rfl
  have hh2o : (if cc.wet then [p.h2o] else []).all (fun d => d.isSome) = true := by
    split
    case isTrue hw => simp [hsome (hwet hw)]
    case isFalse => rfl
  have hgas : (if cc.actual then [p.temp, p.press] else []).all (fun d => d.isSome) = true := by
    split
    case isTrue ha => simp [hsome (hactual ha).1, hsome (hactual ha).2]
    case isFalse => rfl
  rw [componentPeripherals, List.all_append, List.all_append, hh2o, hgas]
  simp [hsome ho2]

/-- R32, R35, R44: within the limits the minute is VALID and enters the sums; beyond them it is FAULT. -/
theorem take_componentMinute {v : MinuteValue} (a : ComponentAcc) (qs : Option ShareFlow) (hstate : v.state = .valid)
    (hmean : v.mean = some c) (hsteps : Steps cc cfg c o2 h warmth force c1 c2 c3) (ho2 : available p.o2 o2)
    (hwet : cc.wet = true → available p.h2o h)
    (hactual : cc.actual = true → available p.temp warmth ∧ available p.press force) :
    (a.take (componentMinute cc cfg p qs v)).maint = a.maint ∧
    (stepsWithin cc cfg o2 c1 c2 c3 → (a.take (componentMinute cc cfg p qs v)).sum = a.sum + c3 ∧
      (a.take (componentMinute cc cfg p qs v)).valid = a.valid + 1 ∧
      (a.take (componentMinute cc cfg p qs v)).fault = a.fault ∧
      (∀ q, qs = some q → (a.take (componentMinute cc cfg p qs v)).massSum = a.massSum + minuteMass c2 q.value ∧
        (a.take (componentMinute cc cfg p qs v)).massCount = a.massCount + 1) ∧
      (qs = none → (a.take (componentMinute cc cfg p qs v)).massSum = a.massSum ∧
        (a.take (componentMinute cc cfg p qs v)).massCount = a.massCount)) ∧
    (¬stepsWithin cc cfg o2 c1 c2 c3 → (a.take (componentMinute cc cfg p qs v)).sum = a.sum ∧
      (a.take (componentMinute cc cfg p qs v)).valid = a.valid ∧
      (a.take (componentMinute cc cfg p qs v)).fault = a.fault + 1 ∧
      (a.take (componentMinute cc cfg p qs v)).massSum = a.massSum ∧
      (a.take (componentMinute cc cfg p qs v)).massCount = a.massCount) := by
  obtain ⟨hwithin, hbeyond⟩ := normalise_steps hsteps ho2 hwet hactual
  obtain ⟨hc3, hcstate, hmass⟩ := componentMinute_valid (cfg := cfg) qs hstate hmean
    (componentPeripherals_available ho2 hwet hactual)
  by_cases hin : stepsWithin cc cfg o2 c1 c2 c3
  · rw [hwithin hin] at hc3 hcstate hmass
    obtain ⟨hsum, hvalid, hmaint, hfault⟩ := take_valid a hcstate hc3
    refine ⟨hmaint, fun _ => ⟨hsum, hvalid, hfault, fun q hq => ?_, fun hnone => ?_⟩, fun hout => absurd hin hout⟩
    · exact take_mass_some a (hmass.trans (by rw [hq]; rfl))
    · exact take_mass_none a (hmass.trans (by rw [hnone]; rfl))
  · rw [hbeyond hin] at hcstate hmass
    obtain ⟨hsum, hvalid, hmaint, hfault⟩ := take_fault a hcstate
    exact ⟨hmaint, fun h => absurd h hin, fun _ => ⟨hsum, hvalid, hfault, take_mass_none a hmass⟩⟩

end Component

/-! The interval takes the minute (R44, R45). -/

theorem takeMinute_opened {o : OpenInterval} (r : MinuteResult) (hr : s.period.recording = .opened)
    (ho : s.period.openInterval = some o) : takeMinute r s = s.setPeriod { s.period with
      openInterval := some (o.take r s.plant.closedOperating s.plant.closedAbnormal) } := by
  rw [takeMinute, hr, ho]

theorem minuteMeasured_opened {o : OpenInterval} (now : StationTime) (hcfg : s.config? = some cfg)
    (hr : s.period.recording = .opened) (ho : s.period.openInterval = some o) :
    (minuteMeasured now s).period = { s.period with
      openInterval := some (o.take (resultOf now.minuteId cfg s) s.plant.operating s.plant.abnormalFlag) } := by
  have htaken : (resultTaken now.minuteId cfg (minuteBegun now s)).period = { s.period with
      openInterval := some (o.take (resultOf now.minuteId cfg s) s.plant.operating s.plant.abnormalFlag) } := by
    simp only [resultTaken, setIntake_period]
    split
    · rw [takeMinute_opened (s := (minuteBegun now s).setNorm _) _ hr ho]
      rfl
    · rw [takeMinute_opened (s := ((minuteBegun now s).setShare _).setNorm _) _ hr ho]
      rfl
  rw [minuteMeasured_configured now hcfg, ← htaken]
  simp

theorem minuteClosed_inside (s : State) (hinside : now.minute % 30 ≠ 29) :
    (minuteClosed now s).period.recording = (minuteMeasured now s).period.recording ∧
    (minuteClosed now s).period.openInterval = (minuteMeasured now s).period.openInterval ∧
    (minuteClosed now s).period.lastOwn = (minuteMeasured now s).period.lastOwn ∧
    (minuteClosed now s).period.openDay = (minuteMeasured now s).period.openDay := by
  have hday : now.minute ≠ 1439 := fun h => hinside (by rw [h])
  rw [minuteClosed, if_neg hday, intervalStepped, if_neg hinside]
  simp

/-- Settles O12. -/
theorem openIntervalTakesTheMinute : Obligations.OpenIntervalTakesTheMinute := by
  intro s now cfg o htime hrange hinside hcfg hr ho
  obtain ⟨v, hv⟩ : ∃ v, v = elapse (s.clock.missing now) s := ⟨_, rfl⟩
  have hexec := exec_minuteClose htime hrange
  rw [← hv] at hexec
  obtain ⟨hrecording, hopen, hlast, hday⟩ := minuteClosed_inside v hinside
  have hvctrl : v.ctrl = s.ctrl := by simp [hv]
  have hvperiod : v.period = s.period := by simp [hv]
  have hvintake : v.intake = s.intake := by simp [hv]
  have hvnorm : v.norm = s.norm := by simp [hv]
  have hvshare : v.share = s.share.advance (s.clock.missing now) := by rw [hv, elapse_share]
  have hvplant : v.plant.operating = s.plant.operating ∧ v.plant.abnormalFlag = s.plant.abnormalFlag := by simp [hv]
  have hclosed := minuteMeasured_opened now ((config?_congr hvctrl).trans hcfg) ((congrArg Period.recording hvperiod).trans hr)
    ((congrArg Period.openInterval hvperiod).trans ho)
  let p := (peripheralsOf cfg s).1
  let qs := apportionedFlow cfg (normalisedFlow cfg p)
    (decideShare (s.share.advance (s.clock.missing now)) s.ctrl.station now.minuteId)
  have hresult : resultOf now.minuteId cfg v = {
      minute := now.minuteId, qs := qs, flowConfigured := cfg.flow.isSome,
      components := cfg.components.map (fun c => c.bind (fun cc =>
        (channelValue s.intake cfg cc.channel).map (fun x => componentMinute cc cfg p qs x))),
      o2 := p.o2.map (fun q => { value := q.value, held := q.held }) } := by
    rw [resultOf, minuteResult, peripheralsOf, hvshare, State.station, hvctrl, hvintake, hvnorm]
    rfl
  rw [hvperiod, hvplant.1, hvplant.2, hresult] at hclosed
  rw [hclosed] at hrecording hopen hlast hday
  have hqs : ∀ x, s.apportioned cfg now x → ∃ q, qs = some q ∧ q.value = x := fun x hx => apportionedFlow_apportioned hx
  have hnoFlow : cfg.flow = none → qs = none := fun hflow => by
    simp only [qs, p]
    rw [normalisedFlow_none hflow]
    rfl
  refine ⟨_, _, hexec, hrecording.trans hr, hopen, rfl, rfl, rfl, rfl, rfl, hlast, hday, fun n e he => ?_, fun x hx => ?_,
    fun hflow => ?_, fun oxygen hoxygen => ?_, fun n cc a c oxygen water temp press hcc ha hc hoxygen hwet hactual => ?_⟩
  · rw [minuteClosed_channels, hvintake]
    exact ⟨e.closed, by rw [List.getElem?_map, he]; rfl, rfl, rfl⟩
  · obtain ⟨q, hq, rfl⟩ := hqs x hx
    show o.qsSum + (qs.map (fun q => q.value)).getD 0 = _ ∧ o.qsCount + bit qs.isSome = _
    rw [hq]
    exact ⟨rfl, rfl⟩
  · show o.qsSum + (qs.map (fun q => q.value)).getD 0 = _ ∧ o.qsCount + bit qs.isSome = _ ∧
      (o.flags.noFlow || !cfg.flow.isSome) = true
    rw [hnoFlow hflow, hflow]
    exact ⟨Int.add_zero _, rfl, Bool.or_true _⟩
  · obtain ⟨q, hq, hvalue⟩ := peripheralsOf_o2 hoxygen
    have hp : p.o2 = some q := hq
    show o.o2Sum + ((p.o2.map (fun q => ({ value := q.value, held := q.held } : O2Used))).map (fun q => q.value)).getD 0 = _ ∧
      o.o2Count + bit (p.o2.map (fun q => ({ value := q.value, held := q.held } : O2Used))).isSome = _
    rw [hp, ← hvalue]
    exact ⟨rfl, rfl⟩
  · intro o2 h warmth force c1 c2 c3 within
    obtain ⟨x, hx, hstate, hmean⟩ := channelValue_measured hc
    have hvalue : (cfg.components.map (fun c => c.bind (fun cc =>
        (channelValue s.intake cfg cc.channel).map (fun x => componentMinute cc cfg p qs x))))[n]? =
        some (some (componentMinute cc cfg p qs x)) := by
      have hx' : channelValue s.intake cfg cc.channel = some x := hx
      rw [List.getElem?_map, hcc, Option.map_some, Option.bind_some, hx', Option.map_some]
    obtain ⟨hmaint, hwithin, hbeyond⟩ := take_componentMinute (cfg := cfg) (p := p) (c1 := c1) (c2 := c2) (c3 := c3) a qs
      hstate hmean (o2 := o2) (h := h) (warmth := warmth) (force := force) ⟨rfl, rfl, rfl⟩ (peripheralsOf_o2 hoxygen)
      (fun hw => peripheralsOf_h2o (hwet hw))
      (fun hact => ⟨peripheralsOf_temp (hactual hact).1, peripheralsOf_press (hactual hact).2⟩)
    refine ⟨_, takeComponents_getElem? ha hvalue, hmaint, fun hin => ?_, hbeyond⟩
    obtain ⟨hsum, hvalid, hfault, hsome, hnone⟩ := hwithin hin
    refine ⟨hsum, hvalid, hfault, fun y hy => ?_, fun hflow => hnone (hnoFlow hflow)⟩
    obtain ⟨q, hq, rfl⟩ := hqs y hy
    exact hsome q hq

end MinuteTaken

end Sys2Proof.Proofs

/-! The interval, day and year closes of a minute close (03, 06; R47 to R60, R102). -/

namespace Sys2Proof.Proofs

open Sys2Proof.Machine Sys2Proof.Laws

/-! What a record brings to the open day and the year summary, component by component (R55 to R59). -/

section Components

variable {n : Nat}

theorem zipDay_getElem? {fate : Fate} {as : List DayAcc} {es : List (Option IntervalEntry)} {a : DayAcc}
    {x : IntervalEntry} (ha : as[n]? = some a) (hx : es[n]? = some (some x)) :
    (zipDay fate as es)[n]? = some (a.add fate x) := by
  induction as generalizing n es with
  | nil => simp at ha
  | cons b as ih =>
    cases es with
    | nil => simp at hx
    | cons e es =>
      cases n with
      | zero =>
        obtain rfl : b = a := by simpa using ha
        obtain rfl : e = some x := by simpa using hx
        rfl
      | succ n =>
        rw [List.getElem?_cons_succ] at ha hx
        have htail := ih ha hx
        cases e with
        | none => exact htail
        | some e => exact htail

theorem zipTotals_getElem? {β : Type} {f : YearTotals → β → YearTotals} {ts : List YearTotals} {es : List (Option β)}
    {a : YearTotals} {x : β} (ha : ts[n]? = some a) (hx : es[n]? = some (some x)) :
    (zipTotals f ts es)[n]? = some (f a x) := by
  induction ts generalizing n es with
  | nil => simp at ha
  | cons b ts ih =>
    cases es with
    | nil => simp at hx
    | cons e es =>
      cases n with
      | zero =>
        obtain rfl : b = a := by simpa using ha
        obtain rfl : e = some x := by simpa using hx
        rfl
      | succ n =>
        rw [List.getElem?_cons_succ] at ha hx
        have htail := ih ha hx
        cases e with
        | none => exact htail
        | some e => exact htail

/-- R58, R59: what the records of an interval and of its day bring to a component's totals. -/
theorem addDay_addInterval (a : YearTotals) (fate : Fate) (x : IntervalEntry) (e : DayEntry) :
    ((a.addInterval fate x).addDay e).counted = a.counted + (if fate = .counted then 1 else 0) ∧
    ((a.addInterval fate x).addDay e).valid = a.valid + (if fate = .counted ∧ x.status = .valid then 1 else 0) ∧
    ((a.addInterval fate x).addDay e).exceeding = a.exceeding + (if x.flags.exceeded then 1 else 0) ∧
    ((a.addInterval fate x).addDay e).mass = a.mass + x.mass ∧
    ((a.addInterval fate x).addDay e).operatingDays = a.operatingDays + (if e.status = .notOperating then 0 else 1) ∧
    ((a.addInterval fate x).addDay e).validDays = a.validDays + (if e.status = .valid then 1 else 0) ∧
    ((a.addInterval fate x).addDay e).invalidDays = a.invalidDays + (if e.status = .invalid then 1 else 0) ∧
    ((a.addInterval fate x).addDay e).exceedingDays = a.exceedingDays + (if e.flags.exceeded then 1 else 0) := by
  cases hstatus : e.status with
  | notOperating => simp [YearTotals.addDay, YearTotals.addInterval, hstatus, bit]
  | valid => simp [YearTotals.addDay, YearTotals.addInterval, hstatus, bit]
  | invalid => simp [YearTotals.addDay, YearTotals.addInterval, hstatus, bit]

theorem dayStatus_notOperating_iff (counted valid allowance : Nat) :
    dayStatus counted valid allowance = .notOperating ↔ counted = 0 := by
  unfold dayStatus
  split
  · simp [*]
  · split <;> simp [*]

theorem dayStatus_valid_iff (counted valid allowance : Nat) :
    dayStatus counted valid allowance = .valid ↔ 1 ≤ counted ∧ 1 ≤ valid ∧ counted - valid ≤ allowance := by
  unfold dayStatus
  split
  case isTrue h => simp [h]
  case isFalse h =>
    have hone : 1 ≤ counted := Nat.pos_of_ne_zero h
    split
    case isTrue hin => simpa [hone] using hin
    case isFalse hout => simpa [hone] using hout

theorem buildDay_component {cfg : ConfigImage} {d : OpenDay} {cc : ComponentConfig} {a : DayAcc} (origin : Nat)
    (hn : n < 8) (hcc : cfg.components[n]? = some (some cc)) (ha : d.components[n]? = some a) :
    (buildDay origin cfg d).components[n]? = some (some (dayEntry cfg cc d a)) := by
  simp [buildDay, hn, hcc, ha]

end Components

section Closes

variable {s : State} {now : StationTime} {cfg : ConfigImage}

/-! The day and the year close with room for their records (R57, R60). -/

theorem dayClose_of_room {d : OpenDay} (hd : s.period.openDay = some d) (h : s.ownRoom) : dayClose s =
    (s.setPeriod { s.period with
      summary := s.period.summary.addDay (buildDay s.station s.config d).components, openDay := none }).setStore
      { s.store with ownQueue := s.store.ownQueue ++ [makeSlot .day (dayData (buildDay s.station s.config d))] } := by
  have hoffer := offerOwn_of_room (makeSlot .day (dayData (buildDay s.station s.config d))) h
  unfold dayClose
  rw [hd]
  dsimp only
  rw [hoffer]
  rfl

theorem yearClose_of_room {y : Nat} (hy : s.period.summaryYear = some y) (hstore : s.store.failed = false)
    (hlen : s.store.ownQueue.length ≤ 6) : yearClose s =
    (s.setPeriod { s.period with summary := {}, summaryYear := some (y + 1) }).setStore { s.store with
      ownQueue := s.store.ownQueue ++ [makeSlot .year1 (year1Data s.station y s.period.summary),
        makeSlot .year2 (year2Data s.station y s.period.summary)] } := by
  have hfirst := offerOwn_of_room (s := s) (makeSlot .year1 (year1Data s.station y s.period.summary))
    ⟨hstore, by omega⟩
  have hsecond := offerOwn_of_room (s := s.setStore { s.store with
      ownQueue := s.store.ownQueue ++ [makeSlot .year1 (year1Data s.station y s.period.summary)] })
    (makeSlot .year2 (year2Data s.station y s.period.summary))
    ⟨hstore, by rw [setStore_store, List.length_append, List.length_singleton]; omega⟩
  unfold yearClose
  rw [hy]
  dsimp only
  rw [offerYear, hfirst, hsecond]
  simp [restartSummary, State.setPeriod, State.setStore]

/-- R52, R57, R60: the close of the last interval of a day records the interval, the day and, at the end of a year, the
year. -/
theorem closeOpenInterval_lastOfDay {o : OpenInterval} {fate : Fate} {d : OpenDay} {y : Nat} {r : IntervalRecord}
    {k : DayRecord} {u : YearSummary} (hindex : o.id.index = 47) (hd : s.period.openDay = some d)
    (hy : s.period.summaryYear = some y) (hstore : s.store.failed = false) (hlen : s.store.ownQueue.length ≤ 4)
    (hr : r = intervalRecord o fate s) (hk : k = buildDay s.station s.config (d.add r))
    (hu : u = (s.period.summary.addInterval r).addDay k.components) :
    (closeOpenInterval o fate s).period.openDay = none ∧
    s.store.ownQueue ++ [makeSlot .interval (intervalData r), makeSlot .day (dayData k)] <+:
      (closeOpenInterval o fate s).store.ownQueue ∧
    (lastOfYear o.id = true → (closeOpenInterval o fate s).period.summaryYear = some (y + 1) ∧
      (closeOpenInterval o fate s).period.summary = {} ∧
      (closeOpenInterval o fate s).store.ownQueue = s.store.ownQueue ++ [makeSlot .interval (intervalData r),
        makeSlot .day (dayData k), makeSlot .year1 (year1Data s.station y u), makeSlot .year2 (year2Data s.station y u)]) := by
  have hroom : s.ownRoom := ⟨hstore, by omega⟩
  have hone : (intervalRecorded o fate s).store.ownQueue.length = s.store.ownQueue.length + 1 := List.length_append
  have hopen : (intervalRecorded o fate s).period.openDay = some (d.add r) := by
    rw [hr]
    exact congrArg (Option.map _) hd
  have hday := dayClose_of_room hopen ⟨hstore, by omega⟩
  obtain ⟨c, hc⟩ : ∃ c, c = dayClose (intervalRecorded o fate s) := ⟨_, rfl⟩
  rw [← hc] at hday
  have hcday : c.period.openDay = none := by rw [hday]; rfl
  have hcyear : c.period.summaryYear = some y := by rw [hday]; exact hy
  have hcsummary : c.period.summary = u := by rw [hday, hu, hk, hr]; rfl
  have hcstation : c.station = s.station := by rw [hday]; rfl
  have hcfailed : c.store.failed = false := by rw [hday]; exact hstore
  have hcqueue : c.store.ownQueue =
      s.store.ownQueue ++ [makeSlot .interval (intervalData r), makeSlot .day (dayData k)] := by
    rw [hday, hk, hr]
    exact List.append_assoc ..
  have hclosed : closeOpenInterval o fate s = if lastOfYear o.id then yearClose c else c := by
    rw [closeOpenInterval_of_room o fate hroom, yearClosed, dayClosed, if_pos hindex, ← hc, hindex]
    rfl
  rw [hclosed]
  cases lastOfYear o.id with
  | false => exact ⟨hcday, hcqueue ▸ List.prefix_rfl, nofun⟩
  | true =>
    have hlast := yearClose_of_room hcyear hcfailed (by
      rw [hcqueue, List.length_append]
      exact Nat.add_le_add_right hlen 2)
    rw [if_pos rfl, hlast]
    refine ⟨hcday, ?_, fun _ => ⟨rfl, rfl, ?_⟩⟩
    · rw [setStore_store, hcqueue]
      exact List.prefix_append ..
    · rw [setStore_store, hcqueue, hcsummary, hcstation]
      exact List.append_assoc ..

/-! What the blocks after the interval close leave of it. -/

/-- R59: a minute close may report a CUTOFF to the summary, and no more. -/
theorem plantMinuteClose_summary (year : Nat) (s : State) :
    ∃ n, (plantMinuteClose year s).period.summary = { s.period.summary with cutoffs := n } := by
  have hreport : ∀ u : State, ∃ n, (reportToSummary (fun y => { y with cutoffs := y.cutoffs + 1 }) u).period.summary =
      { u.period.summary with cutoffs := n } := fun u => by
    unfold reportToSummary
    split
    · split
      · exact ⟨_, rfl⟩
      · exact ⟨_, rfl⟩
    · exact ⟨_, rfl⟩
  have hcutoff : ∀ (cause ending) (u : State), ∃ n, (cutoffFromAbnormal cause ending u).period.summary =
      { u.period.summary with cutoffs := n } := fun cause ending u => by
    obtain ⟨n, hn⟩ := hreport _
    exact ⟨n, hn.trans (by simp [offerAbnEnd])⟩
  have hcount : ∃ n, (countMinute s).period.summary = { s.period.summary with cutoffs := n } := by
    unfold countMinute
    extract_lets p q
    split
    · unfold checkLimits
      split
      · obtain ⟨n, hn⟩ := hcutoff _ _ _
        exact ⟨n, hn⟩
      · exact ⟨_, rfl⟩
    · exact ⟨_, rfl⟩
  obtain ⟨n, hn⟩ := hcount
  exact ⟨n, by simpa [plantMinuteClose] using hn⟩

/-! The interval close of a minute close (R47). -/

/-- The open interval as a close by the station's own count finds it (R52, R105). -/
def onTime (o : OpenInterval) : OpenInterval := { o with flags := { o.flags with earlyClose := false } }

/-- The station with the minute measured and the open interval closed, before the next one is opened. -/
def recordClosed (o : OpenInterval) (now : StationTime) (s : State) : State :=
  closeOpenInterval (onTime o) (decideFate false o.operating o.abnormal) (minuteMeasured now s)

theorem intervalStepped_opened {o : OpenInterval} (hend : now.minute % 30 = 29)
    (hr : (minuteMeasured now s).period.recording = .opened) (ho : (minuteMeasured now s).period.openInterval = some o) :
    intervalStepped now s = closeInterval false now.interval now.nextMinute.interval (minuteMeasured now s) ∧
    periodIntervalClose false now.nextMinute.interval (minuteMeasured now s) =
      openInterval now.nextMinute.interval false (recordClosed o now s) := by
  refine ⟨if_pos hend, ?_⟩
  rw [periodIntervalClose, hr, ho]
  rfl

/-- What a minute close keeps of the interval close in it. -/
structure Recorded (o : OpenInterval) (now : StationTime) (c t : State) : Prop where
  queue : c.store.ownQueue <+: t.store.ownQueue
  lastOwn : t.period.lastOwn = some o.id
  recording : t.period.recording = .opened
  next : t.period.openInterval = some (formInterval c.config now.nextMinute.interval false)
  openDay : t.period.openDay = (formDay now.nextMinute.interval c).period.openDay
  summaryYear : t.period.summaryYear = c.period.summaryYear
  summary : ∃ n, t.period.summary = { c.period.summary with cutoffs := n }

theorem formDay_summary (i : Id) (s : State) : (formDay i s).period.summary = s.period.summary := by
  unfold formDay
  split
  · split <;> rfl
  · rfl

theorem minuteClosed_recorded {o : OpenInterval} (hend : now.minute % 30 = 29)
    (hr : (minuteMeasured now s).period.recording = .opened) (ho : (minuteMeasured now s).period.openInterval = some o) :
    Recorded o now (recordClosed o now s) (minuteClosed now s) := by
  obtain ⟨hstepped, hclose⟩ := intervalStepped_opened hend hr ho
  obtain ⟨c, hc⟩ : ∃ c, c = recordClosed o now s := ⟨_, rfl⟩
  have hlast : c.period.lastOwn = some o.id := by
    rw [hc]
    exact closeOpenInterval_lastOwn ..
  obtain ⟨p, hp⟩ : ∃ p, p = openInterval now.nextMinute.interval false c := ⟨_, rfl⟩
  rw [← hc] at hclose ⊢
  rw [← hp] at hclose
  have hstep : (intervalStepped now s).period = p.period ∧ (intervalStepped now s).store = p.store := by
    rw [hstepped, closeInterval, hclose]
    split
    · simp
    · exact ⟨rfl, rfl⟩
  obtain ⟨hperiod, hstore⟩ := hstep
  have hplast : p.period.lastOwn = some o.id := by rw [hp]; simpa using hlast
  have hpyear : p.period.summaryYear = c.period.summaryYear := by rw [hp]; simp
  have hpsummary : p.period.summary = c.period.summary := by
    rw [hp]
    exact formDay_summary ..
  have hpqueue : p.store.ownQueue = c.store.ownQueue := by rw [hp]; simp
  have hpopen : p.period.openInterval = some (formInterval c.config now.nextMinute.interval false) := by
    rw [hp]
    simp [openInterval, State.config, State.config?]
  obtain ⟨n, hn⟩ := plantMinuteClose_summary now.nextMinute.year (intervalStepped now s)
  rw [hperiod, hpsummary] at hn
  have hkept := (plantMinuteClose_keeps_ownQueue now.nextMinute.year (intervalStepped now s)).trans
    (offerAdjust_keeps_ownQueue s.clock.staged _)
  rw [hstore, hpqueue] at hkept
  obtain ⟨w, hw⟩ : ∃ w, w = offerAdjust s.clock.staged (plantMinuteClose now.nextMinute.year (intervalStepped now s)) :=
    ⟨_, rfl⟩
  have hclosed : (minuteClosed now s).period = w.period ∧ (minuteClosed now s).store.ownQueue = w.store.ownQueue := by
    rw [minuteClosed, ← hw]
    split
    · exact ⟨by simp, storeDayClose_ownQueue ..⟩
    · exact ⟨rfl, rfl⟩
  obtain ⟨hwperiod, hwqueue⟩ := hclosed
  rw [← hw] at hkept
  have hwp : w.period = (plantMinuteClose now.nextMinute.year (intervalStepped now s)).period := by rw [hw]; simp
  rw [← hwp, ← hwperiod] at hn
  rw [hwp] at hwperiod
  obtain ⟨hkrecording, hklast, hkopen, hkday, hkyear⟩ :=
    plantMinuteClose_periodFields now.nextMinute.year (intervalStepped now s)
  exact {
    queue := by rwa [hwqueue]
    lastOwn := by rw [hwperiod, hklast, hperiod, hplast]
    recording := by rw [hwperiod, hkrecording, hperiod, hp]; rfl
    next := by rw [hwperiod, hkopen, hperiod, hpopen]
    openDay := by rw [hwperiod, hkday, hperiod, hp]; rfl
    summaryYear := by rw [hwperiod, hkyear, hperiod, hpyear]
    summary := ⟨n, hn⟩ }

/-- What the interval close of a minute close finds: the minute taken by the open interval, and nothing recorded yet. -/
structure AtClose (o o' : OpenInterval) (s m : State) : Prop where
  period : m.period = { s.period with openInterval := some o' }
  store : m.store = s.store
  ctrl : m.ctrl = s.ctrl
  id : o'.id = o.id
  operating : o'.operating = o.operating + (if s.plant.operating then 1 else 0)
  abnormal : o'.abnormal = o.abnormal + (if s.plant.abnormalFlag then 1 else 0)
  isPartial : o'.flags.isPartial = o.flags.isPartial
  room : s.link.queue.length < 8 → m.link.queue.length ≤ s.link.queue.length + 1

theorem atClose_minuteMeasured {o : OpenInterval} (now : StationTime) (dt : Nat) (hcfg : s.config? = some cfg)
    (hr : s.period.recording = .opened) (ho : s.period.openInterval = some o) :
    ∃ o', AtClose o o' s (minuteMeasured now (elapse dt s)) := by
  obtain ⟨v, hv⟩ : ∃ v, v = elapse dt s := ⟨_, rfl⟩
  have hvframe : v.ctrl = s.ctrl ∧ v.period = s.period ∧ v.store = s.store ∧ v.plant.operating = s.plant.operating ∧
      v.plant.abnormalFlag = s.plant.abnormalFlag := by simp [hv]
  obtain ⟨hctrl, hperiod, hstore, hoperating, habnormal⟩ := hvframe
  have hmeasured := minuteMeasured_opened now ((config?_congr hctrl).trans hcfg)
    ((congrArg Period.recording hperiod).trans hr) ((congrArg Period.openInterval hperiod).trans ho)
  rw [hperiod, hoperating, habnormal] at hmeasured
  obtain ⟨hqueue, -⟩ : s.link.expiresOver v.link dt := hv ▸ elapse_expiresOver ..
  have hshort : v.link.queue.length ≤ s.link.queue.length := by
    rw [hqueue]
    exact List.length_filter_le ..
  obtain ⟨-, -, -, hroom⟩ := broadcasts_closeMeasurement now.minuteId (copyClosedFlags (v.setClock (v.clock.close now)))
  rw [← hv]
  refine ⟨_, {
    period := hmeasured
    store := by simp [minuteMeasured, hstore]
    ctrl := by simp [minuteMeasured, hctrl]
    id := rfl
    operating := rfl
    abnormal := rfl
    isPartial := rfl
    room := fun hlink => ?_ }⟩
  have hbegun : (copyClosedFlags (v.setClock (v.clock.close now))).link = v.link := by simp
  rw [hbegun] at hroom
  obtain ⟨-, hlen⟩ := hroom (by omega)
  exact hlen.trans (Nat.add_le_add_right hshort 1)

/-- R93, R95, R102: with room for it the MARK joins the queue. -/
theorem mem_offerBroadcast (k : FrameKind) (payload : List Byte) (h : s.link.queue.length < 8) :
    ({ kind := k, target := 0, payload := payload, terminal := none, offered := s.now,
       deadline := s.now + deadlineAfter k } : TxEntry) ∈ (offerBroadcast k payload s).link.queue := by
  rw [offerBroadcast, joinQueue_room _ _ h]
  exact List.mem_append_right _ (List.mem_singleton_self _)

/-- R55: the day formed for an interval of the open day's own day is the open day. -/
theorem formDay_same {i : Id} {d : OpenDay} (hd : s.period.openDay = some d) (hsame : d.day = i.toDay) :
    (formDay i s).period.openDay = some d := by
  rw [formDay, hd]
  simp [hsame, hd]

theorem formDay_absent (i : Id) (hd : s.period.openDay = none) :
    (formDay i s).period.openDay = some { day := i.toDay } := by
  rw [formDay, hd]
  rfl

theorem decideFate_not_interrupted (operating abnormal : Nat) : decideFate false operating abnormal ≠ .interrupted := by
  unfold decideFate
  split
  · contradiction
  · split
    · nofun
    · split <;> nofun

theorem getElem?_of_append_prefix {α : Type} {l more l' : List α} {x : α} {n : Nat} (h : l ++ more <+: l')
    (hx : more[n]? = some x) : l'[l.length + n]? = some x := by
  obtain ⟨later, rfl⟩ := h
  have hlt : n < more.length := (List.getElem?_eq_some_iff.mp hx).1
  rw [List.append_assoc, List.getElem?_append_right (Nat.le_add_right ..), Nat.add_sub_cancel_left,
    List.getElem?_append_left hlt, hx]

end Closes

section IntervalClose

variable {s : State} {now : StationTime} {o : OpenInterval}

/-- The interval record of a minute close, from the minute measured. -/
def recordOf (o : OpenInterval) (m : State) : IntervalRecord :=
  intervalRecord (onTime o) (decideFate false o.operating o.abnormal) m

/-- R55, R58: an interval that is not its day's last leaves its record in the queue, the open day and the summary. -/
theorem recordClosed_inside (hroom : (minuteMeasured now s).ownRoom) (hindex : o.id.index ≠ 47) :
    recordClosed o now s = intervalRecorded (onTime o) (decideFate false o.operating o.abnormal) (minuteMeasured now s) :=
  closeOpenInterval_inside _ _ hroom hindex

theorem recordClosed_queue (hroom : (minuteMeasured now s).ownRoom) :
    (minuteMeasured now s).store.ownQueue ++ [makeSlot .interval (intervalData (recordOf o (minuteMeasured now s)))] <+:
      (recordClosed o now s).store.ownQueue := by
  rw [recordClosed, closeOpenInterval_of_room _ _ hroom]
  exact (offers_closings (onTime o) (intervalRecorded (onTime o) _ (minuteMeasured now s))).ownQueue_prefix

/-- R102: the MARK of the close stands in the queue where the LOAD of the same close leaves room for it. -/
theorem minuteClosed_mark (hend : now.minute % 30 = 29)
    (hr : (minuteMeasured now s).period.recording = .opened) (ho : (minuteMeasured now s).period.openInterval = some o)
    (hstate : s.ctrl.state = .recording) (hlen : (minuteMeasured now s).link.queue.length < 8) :
    ∃ e ∈ (minuteClosed now s).link.queue, e.kind = .mark ∧ e.sending = false ∧ e.payload = idBytes now.interval ∧
      e.deadline = e.offered + 10000000 := by
  obtain ⟨hstepped, hclose⟩ := intervalStepped_opened hend hr ho
  obtain ⟨p, hp⟩ : ∃ p, p = periodIntervalClose false now.nextMinute.interval (minuteMeasured now s) := ⟨_, rfl⟩
  have hplink : p.link = (minuteMeasured now s).link := by rw [hp]; simp
  have hpctrl : p.ctrl.state = .recording := by rw [hp]; simpa [minuteMeasured] using hstate
  obtain ⟨-, -, -, hlink, -⟩ := minuteClosed_frame now s
  rw [hlink, hstepped, closeInterval, ← hp, if_pos (by simp [hpctrl])]
  exact ⟨_, mem_offerBroadcast .mark _ (hplink ▸ hlen), rfl, rfl, rfl, rfl⟩

/-- R55: what an interval's record brings to the open day. -/
theorem openDay_add (d : OpenDay) (r : IntervalRecord) : (d.add r).day = d.day ∧ (d.add r).intervals = d.intervals + 1 ∧
    (d.add r).operating = d.operating + r.operating ∧ (d.add r).abnormal = d.abnormal + r.abnormal ∧
    (d.add r).counted = d.counted + (if r.fate = .counted then 1 else 0) ∧
    (d.add r).o2Sum = d.o2Sum + (if r.fate = .counted then r.o2Mean else 0) ∧
    (d.add r).qsSum = d.qsSum + (if r.fate = .counted then r.qsMean else 0) := by
  simp [OpenDay.add, bit]

/-- R55: what an interval's entry brings to its component's day. -/
theorem dayAcc_add (a : DayAcc) (fate : Fate) (x : IntervalEntry) :
    (a.add fate x).validatedSum = a.validatedSum + (if fate = .counted ∧ x.status = .valid then x.validated else 0) ∧
    (a.add fate x).valid = a.valid + (if fate = .counted ∧ x.status = .valid then 1 else 0) ∧
    (a.add fate x).massSum = a.massSum + x.mass := by
  simp [DayAcc.add, bit]

/-- R56, R57: a component's day values. -/
theorem dayEntry_fields (cfg : ConfigImage) (cc : ComponentConfig) (d : OpenDay) (a : DayAcc) :
    (dayEntry cfg cc d a).mass = min a.massSum 4294967295 ∧ (dayEntry cfg cc d a).counted = d.counted ∧
    (dayEntry cfg cc d a).valid = a.valid ∧
    (dayEntry cfg cc d a).notValid = (dayEntry cfg cc d a).counted - (dayEntry cfg cc d a).valid ∧
    ((dayEntry cfg cc d a).status = .notOperating ↔ (dayEntry cfg cc d a).counted = 0) ∧
    ((dayEntry cfg cc d a).status = .valid ↔ 1 ≤ (dayEntry cfg cc d a).counted ∧ 1 ≤ (dayEntry cfg cc d a).valid ∧
      (dayEntry cfg cc d a).notValid ≤ cfg.dayAllowance) ∧
    ((dayEntry cfg cc d a).flags.exceeded = true ↔
      (dayEntry cfg cc d a).status = .valid ∧ cc.dayLimit < (dayEntry cfg cc d a).mean) ∧
    ((dayEntry cfg cc d a).valid = 0 → (dayEntry cfg cc d a).mean = 0) ∧
    (0 < (dayEntry cfg cc d a).valid →
      (dayEntry cfg cc d a).mean = (roundDiv a.validatedSum (dayEntry cfg cc d a).valid).toNat) := by
  refine ⟨rfl, rfl, rfl, rfl, dayStatus_notOperating_iff .., dayStatus_valid_iff .., by simp [dayEntry], fun hnone => ?_,
    fun hsome => ?_⟩
  · exact congrArg Int.toNat (if_pos hnone)
  · exact congrArg Int.toNat (if_neg (Nat.ne_of_gt hsome))

/-- R58: a record that is not an interrupted interval's adds its minutes to the summary. -/
theorem summary_addInterval (u : YearSummary) {r : IntervalRecord} (h : r.fate ≠ .interrupted) :
    (u.addInterval r).operating = u.operating + r.operating ∧ (u.addInterval r).abnormal = u.abnormal + r.abnormal ∧
    (u.addInterval r).interrupted = u.interrupted := by
  simp [YearSummary.addInterval, bit, h]

theorem interval_toDay_of_inside (hminute : now.minute < 1439) : now.nextMinute.interval.toDay = now.dayId := by
  rw [StationTime.nextMinute, if_pos hminute]
  rfl

/-- Settles O15. -/
theorem intervalCloseRecordsTheInterval : Obligations.IntervalCloseRecordsTheInterval := by
  refine ⟨?_, ?_⟩
  · intro s now cfg o htime hrange hend hcfg hr ho hstate hroom hlink
    have hexec := exec_minuteClose htime hrange
    obtain ⟨o', hat⟩ := atClose_minuteMeasured now (s.clock.missing now) hcfg hr ho
    have hvstate : (elapse (s.clock.missing now) s).ctrl.state = .recording := by simpa using hstate
    obtain ⟨v, hv⟩ : ∃ v, v = elapse (s.clock.missing now) s := ⟨_, rfl⟩
    rw [← hv] at hexec hat hvstate
    obtain ⟨hperiod, hstore, hctrl, hid, hoperating, habnormal, hpartial, hlen⟩ := hat
    have hmroom : (minuteMeasured now v).ownRoom := by rwa [State.ownRoom, hstore]
    have hmopen : (minuteMeasured now v).period.openInterval = some o' := by rw [hperiod]
    have hmr : (minuteMeasured now v).period.recording = .opened := by rw [hperiod]; exact hr
    obtain ⟨hqueue, hlast, hrecording, hnext, hday, hyear, cutoffs, hsummary⟩ := minuteClosed_recorded hend hmr hmopen
    obtain ⟨e, he, hkind, hsending, hpayload, hdeadline⟩ := minuteClosed_mark hend hmr hmopen hvstate
      (Nat.lt_of_le_of_lt (hlen (by omega)) (by omega))
    have hinside : o.id.index ≠ 47 → recordClosed o' now v = _ := fun h => recordClosed_inside hmroom (by rwa [hid])
    obtain ⟨r, hrec⟩ : ∃ r, r = recordOf o' (minuteMeasured now v) := ⟨_, rfl⟩
    have hrecord := (recordClosed_queue (o := o') hmroom).trans hqueue
    rw [← hrec, hstore] at hrecord
    refine ⟨_, _, r, e, hexec, hlast.trans (congrArg some hid), hrecording, hnext, rfl, rfl, rfl, rfl, rfl,
      getElem?_of_append_prefix (n := 0) hrecord rfl, ?_, ?_, ?_, ?_, ?_, ?_, ?_, he, hkind, hsending, hpayload, hdeadline,
      fun d hd hdday hrunning hminute => ?_, fun hindex => ?_⟩
    · rw [hrec]
      exact congrArg (fun c => c.station) hctrl
    · rw [hrec]
      exact hid
    · rw [hrec]
      exact hoperating
    · rw [hrec]
      exact habnormal
    · rw [hrec]
      rfl
    · rw [hrec]
      rfl
    · rw [hrec]
      exact hpartial
    · have hindex : o.id.index ≠ 47 := by
        have : now.minute / 30 ≠ 47 := by omega
        rwa [hrunning]
      have hadded : (recordClosed o' now v).period.openDay = some (d.add r) := by
        rw [hinside hindex, hrec]
        exact congrArg (Option.map _) ((congrArg Period.openDay hperiod).trans hd)
      refine ⟨_, hday.trans (formDay_same hadded ?_), openDay_add d r⟩
      rw [interval_toDay_of_inside hminute]
      exact hdday
    · have hadded : (recordClosed o' now v).period.summary = s.period.summary.addInterval r := by
        rw [hinside hindex, hrec]
        exact congrArg (fun p => YearSummary.addInterval p.summary _) hperiod
      obtain ⟨hsoperating, hsabnormal, hsinterrupted⟩ := summary_addInterval s.period.summary (r := r)
        (by rw [hrec]; exact fun h => decideFate_not_interrupted _ _ h)
      rw [hsummary, hadded]
      refine ⟨hsoperating, hsabnormal, hsinterrupted, rfl, ?_⟩
      rw [hyear, hinside hindex]
      show (minuteMeasured now v).period.summaryYear = _
      rw [hperiod]
  · intro s now cfg o d y htime hrange hminute hcfg hr ho hrunning hd hy hfailed hlen
    have hexec := exec_minuteClose htime hrange
    have hend : now.minute % 30 = 29 := by rw [hminute]
    obtain ⟨o', hat⟩ := atClose_minuteMeasured now (s.clock.missing now) hcfg hr ho
    obtain ⟨v, hv⟩ : ∃ v, v = elapse (s.clock.missing now) s := ⟨_, rfl⟩
    rw [← hv] at hexec hat
    obtain ⟨hperiod, hstore, hctrl, hid, -⟩ := hat
    have hmopen : (minuteMeasured now v).period.openInterval = some o' := by rw [hperiod]
    have hmr : (minuteMeasured now v).period.recording = .opened := by rw [hperiod]; exact hr
    have hindex : (onTime o').id.index = 47 := by
      show o'.id.index = 47
      rw [hid, hrunning, StationTime.interval, hminute]
    have hstation : (minuteMeasured now v).station = s.ctrl.station := congrArg (fun c => c.station) hctrl
    have hconfig : (minuteMeasured now v).config = cfg := by rw [State.config, config?_congr hctrl, hcfg]; rfl
    obtain ⟨hqueue, -, -, -, hday, hyear, cutoffs, hsummary⟩ := minuteClosed_recorded hend hmr hmopen
    obtain ⟨r, hrec⟩ : ∃ r, r = recordOf o' (minuteMeasured now v) := ⟨_, rfl⟩
    obtain ⟨k, hk⟩ : ∃ k, k = buildDay (minuteMeasured now v).station (minuteMeasured now v).config (d.add r) := ⟨_, rfl⟩
    obtain ⟨u, hu⟩ : ∃ u, u = ((minuteMeasured now v).period.summary.addInterval r).addDay k.components := ⟨_, rfl⟩
    obtain ⟨habsent, hrecords, hlast⟩ := closeOpenInterval_lastOfDay hindex
      ((congrArg Period.openDay hperiod).trans hd) ((congrArg Period.summaryYear hperiod).trans hy)
      ((congrArg (fun c => c.failed) hstore).trans hfailed) (by rwa [hstore]) hrec hk hu
    have hrid : r.id = o.id := by
      rw [hrec]
      exact hid
    have hprefix := hrecords.trans hqueue
    rw [hstore] at hprefix hlast
    rw [hstation, hconfig] at hk
    rw [hstation] at hlast
    rw [hperiod] at hu
    obtain ⟨hdday, hdintervals, hdoperating, hdabnormal, hdcounted, -⟩ := openDay_add d r
    refine ⟨_, r, k, hexec, hrid, getElem?_of_append_prefix (n := 0) hprefix rfl,
      getElem?_of_append_prefix (n := 1) hprefix rfl, by rw [hk]; rfl, by rw [hk]; rfl, by rw [hk]; rfl, by rw [hk]; rfl,
      by rw [hk]; rfl, ?_, hday.trans (formDay_absent _ habsent), fun n cc x a hcc hx ha hn => ?_, fun hlastDay => ?_⟩
    · rw [hk, Bool.or_assoc]
      rfl
    · obtain ⟨hsum, hvalid, hmass⟩ := dayAcc_add a r.fate x
      have hentry := buildDay_component s.ctrl.station hn hcc (zipDay_getElem? (fate := r.fate) ha hx) (d := d.add r)
      rw [← hk] at hentry
      obtain ⟨hemass, hecounted, hevalid, herest⟩ := dayEntry_fields cfg cc (d.add r) (a.add r.fate x)
      rw [hmass] at hemass
      rw [hsum] at herest
      exact ⟨_, hentry, hemass, hecounted.trans hdcounted, hevalid.trans hvalid, herest⟩
    · have hyearEnd : lastOfYear (onTime o').id = true := by
        show (o'.id.day == daysInYear o'.id.year) = true
        rw [hid, hrunning]
        exact beq_iff_eq.mpr hlastDay
      obtain ⟨hnextYear, hcleared, hqueued⟩ := hlast hyearEnd
      obtain ⟨huoperating, huabnormal, huinterrupted⟩ := summary_addInterval s.period.summary (r := r)
        (by rw [hrec]; exact fun h => decideFate_not_interrupted _ _ h)
      rw [recordClosed, hqueued] at hqueue
      refine ⟨u, getElem?_of_append_prefix (n := 2) hqueue rfl, getElem?_of_append_prefix (n := 3) hqueue rfl,
        by rw [hu]; exact huoperating, by rw [hu]; exact huabnormal, by rw [hu]; rfl, by rw [hu]; rfl, by rw [hu]; rfl,
        by rw [hu]; exact huinterrupted, fun n a x e ha hx he => ⟨_, ?_, addDay_addInterval a r.fate x e⟩,
        hyear.trans hnextYear, ?_⟩
      · rw [hu]
        exact zipTotals_getElem? (zipTotals_getElem? ha hx) he
      · rw [hsummary, recordClosed, hcleared]

end IntervalClose

end Sys2Proof.Proofs
